-- ==== Sys2Proof/Word.lean ====
section
/-! DEFINITION. The two word types of the block (R22 of 00_scope.md): no value is signed. -/

namespace Sys2Proof

/-- `u8`. -/
abbrev Byte := BitVec 8

/-- `u64`, a time in milliseconds. -/
abbrev U64 := BitVec 64

/-- The opaque "user receive callback" handle of R43 (10_state.md): stored, never called.
DESIGN CHOICE, unsafe (log entry 9): the spec gives it no width; 32 bits here, and 0 is the null handle. -/
abbrev Handle := BitVec 32

end Sys2Proof
end

