-- ==== Sys2Proof/Config.lean ====
section
/-! DEFINITION. What is fixed for the hardware (R9, R10, R12 and R14 of 00_scope.md, and the flush bytes of R13) and the parameters
of R5 and R15 to R21, with their defaults. -/

namespace Sys2Proof

/-- The twelve lifecycle states, R47 (10_state.md). -/
inductive LifecycleState where
  | powerOff
  | moduleStartup
  | configure
  | sleep
  | idle
  | externalInterrupt
  | statusReading
  | receive
  | receiving
  | transmit
  | transmitting
  | poweringOff
  deriving DecidableEq, Repr

namespace Config

/-- `NUM_PIPES`, R9. -/
def numPipes : Nat := 6

/-- `MAX_AW`, R10: the widest address in bytes. -/
def maxAw : Nat := 5

/-- The default of `LEGAL_AW`, R11. -/
def legalAw : List Byte := [3, 4, 5]

/-- `BUF_CAP`, R12: one command byte and the widest payload. -/
def bufCap : Nat := 1 + maxAw

/-- The default of `OP_READ`, R13; also the `op` field of R_REGISTER in the table of R121. -/
def opRead : Byte := 0x00

/-- The default of `OP_WRITE`, R13; also the `op` field of W_REGISTER in the table of R121. -/
def opWrite : Byte := 0x20

/-- `OP_FLUSH_TX`, R13. -/
def opFlushTx : Byte := 0xE1

/-- `OP_FLUSH_RX`, R13. -/
def opFlushRx : Byte := 0xE2

/-- `REG_ADDR_BITS`, R14. -/
def regAddrBits : Nat := 5

end Config

/-- `P2P5_REFERENCE`, R17: what the upper bytes of a pipe 2 to 5 address are compared with. -/
inductive P2P5Reference where
  | cache
  | input
  deriving DecidableEq, Repr

/-- One row of a `NEXT_AFTER_STATUS` table: taken when the masked STATUS and FIFO_STATUS bytes have the given values. -/
structure StatusRule where
  statusMask : Byte
  statusValue : Byte
  fifoMask : Byte
  fifoValue : Byte
  target : LifecycleState
  deriving DecidableEq, Repr

/-- `NEXT_AFTER_STATUS`, R19, as plain data: the first rule that fits gives the state, else `otherwise`.
Every function of two bytes into the twelve states is such a table (log entry 8). -/
structure StatusTable where
  rules : List StatusRule
  otherwise : LifecycleState
  deriving DecidableEq, Repr

/-- The parameters of a step (R29): those that stay open in the spec (R15 to R21) and the source's unaudited literals
(R5; "Parameters left open" of 92_eei_decisions.md, I1 of 93_implementation_defined.md).
They are a field of State that no step writes (log entry 7). -/
structure Params where
  /-- `LEGAL_AW`, R11: the legal address widths in bytes. -/
  legalAw : List Byte
  /-- `OP_READ`, R13. -/
  opRead : Byte
  /-- `OP_WRITE`, R13. -/
  opWrite : Byte
  /-- `STARTUP_SETTLE_MS`, R15. -/
  startupSettleMs : U64
  /-- `POWERON_IRQ_MASK`, R16: MASK_RX_DR, MASK_TX_DS, MASK_MAX_RT from bit 2 down. -/
  powerOnIrqMask : BitVec 3
  /-- `EN_AA_REQUIRES_ENABLE`, R17. -/
  enAaRequiresEnable : Bool
  /-- `P2P5_REFERENCE`, R17. -/
  p2p5Reference : P2P5Reference
  /-- `FILL_BYTE`, R18. -/
  fillByte : Byte
  /-- `NEXT_AFTER_STATUS`, R19. -/
  nextAfterStatus : StatusTable
  /-- `EXPOSE_ENGINE`, R20. -/
  exposeEngine : Bool
  /-- `INCLUDE_SEQUENCER`, R21. -/
  includeSequencer : Bool
  deriving DecidableEq, Repr

namespace Config

/-- The defaults of R11, R13 and R15 to R21: the values the spec fixes for the hardware. -/
def defaultParams : Params where
  legalAw := legalAw
  opRead := opRead
  opWrite := opWrite
  startupSettleMs := 100
  powerOnIrqMask := 0b011
  enAaRequiresEnable := true
  p2p5Reference := .cache
  fillByte := 0xFF
  nextAfterStatus := { rules := [], otherwise := .receive }
  exposeEngine := false
  includeSequencer := true

end Config

end Sys2Proof
end

