-- ==== Sys2Proof/Syntax.lean ====
section
/-! DEFINITION. The instructions: one constructor per row of spec/opcode_table.json, their operand records, and the
two forms in which an instruction reaches the block (a record on the host port, a command frame for the engine). -/

namespace Sys2Proof

/-- Six like things: the pipes 0 to 5 (R9), or the six bytes of a transaction buffer (R12). -/
structure Six (α : Type) where
  c0 : α
  c1 : α
  c2 : α
  c3 : α
  c4 : α
  c5 : α
  deriving DecidableEq, Repr

/-- A pipe address of `MAX_AW` = 5 bytes, index 0 least significant and first on the wire (R39, R93). -/
structure Address where
  b0 : Byte
  b1 : Byte
  b2 : Byte
  b3 : Byte
  b4 : Byte
  deriving DecidableEq, Repr

/-- One pipe's record, R43 and R200. -/
structure PipeRecord where
  enabled : Bool
  autoAck : Bool
  address : Address
  callback : Handle
  deriving DecidableEq, Repr

/-- A command frame as it is handed to the transceiver: the `txLen` bytes to send and `rxLen` (R120, R125). -/
structure Frame where
  tx : List Byte
  rxLen : Nat
  deriving DecidableEq, Repr

/-- How an instruction reaches the block: an operand record on the host port, byte 0 the operation code (R132), or a
command frame given to the transaction engine (R120; `RegRead` and `RegWrite` of R137). -/
inductive Submission where
  | host (record : List Byte)
  | frame (f : Frame)
  deriving DecidableEq, Repr

/-- What a command byte says, R129. -/
inductive WireCommand where
  | rRegister (addr : BitVec 5)
  | wRegister (addr : BitVec 5)
  | flushTx
  | flushRx
  | notEmitted (b : Byte)
  deriving DecidableEq, Repr

/-- Why a submission is no instruction. Safe: the model stops where the spec describes no such submission (log entry 13). -/
inductive DecodeError where
  /-- the record has no byte -/
  | emptyRecord
  /-- the first byte is above 0xF: no 4-bit operation code -/
  | notAHop (b : Byte)
  /-- the operand record ends too early -/
  | truncated
  /-- bytes follow the operand record -/
  | trailing
  /-- a flag byte is neither 0 nor 1 -/
  | badFlag (b : Byte)
  /-- the frame has no command byte -/
  | emptyFrame
  /-- a command byte the block never emits, R129 -/
  | notEmitted (b : Byte)
  /-- the lengths of the frame are none of R125's -/
  | badLength
  deriving DecidableEq, Repr

/-- One constructor per row of the opcode table, in the table's order. -/
inductive Instr where
  /-- R_REGISTER, R247: read `n` bytes of a peripheral register. -/
  | rRegister (addr : BitVec 5) (n : Byte)
  /-- W_REGISTER, R246: write payload bytes to a peripheral register. -/
  | wRegister (addr : BitVec 5) (bytes : List Byte)
  /-- FLUSH_TX, R248. -/
  | flushTx
  /-- FLUSH_RX, R248. -/
  | flushRx
  /-- CONFIGURE, R210. -/
  | configure (aw : Byte) (pipes : Six PipeRecord)
  /-- DRIVE, R280. -/
  | drive
  /-- REQ_POWER_ON, R340. -/
  | reqPowerOn
  /-- REQ_WAKE, R341. -/
  | reqWake
  /-- REQ_SLEEP, R342. -/
  | reqSleep
  /-- NOTIFY_IRQ, R343. -/
  | notifyIrq
  /-- NOTIFY_DONE, R345; its `n` is the number of bytes. -/
  | notifyDone (bytes : List Byte)
  /-- BEGIN_WRITE, R246; its `n` is the number of bytes. -/
  | beginWrite (addr : Byte) (bytes : List Byte)
  /-- BEGIN_READ, R247. -/
  | beginRead (addr : Byte) (n : Byte)
  /-- BEGIN_COMMAND, R248. -/
  | beginCommand (cmd : Byte)
  /-- RESERVED_HOP 0x7, R347. -/
  | reservedHop7
  /-- RESERVED_HOP 0xB, R347. -/
  | reservedHopB
  /-- RESERVED_HOP 0xC, R347. -/
  | reservedHopC
  /-- RESERVED_HOP 0xD, R347. -/
  | reservedHopD
  /-- RESERVED_HOP 0xE, R347. -/
  | reservedHopE
  /-- RESERVED_HOP 0xF, R347. -/
  | reservedHopF
  deriving DecidableEq, Repr

end Sys2Proof
end

