-- ==== Sys2Proof/WellFormed.lean ====
section
/-! DEFINITION. Which instruction terms have an encoding: byte lists that fit the length field or the frame they
stand in. An operand that the block itself refuses (BEGIN_WRITE with `n` = 6) is well formed: it is encoded, and
its meaning raises ArgumentError. -/

namespace Sys2Proof

/-- A list whose length is a `u8` (R132: `n : u8`). -/
def fitsCount (bytes : List Byte) : Bool := bytes.length < 256

/-- A payload that fits a frame of `BUF_CAP` bytes after its command byte (R245). -/
def fitsFrame (n : Nat) : Bool := n ≤ Config.maxAw

/-- The instruction has an encoding. -/
def WellFormed : Instr → Bool
  | .rRegister _ n => fitsFrame n.toNat
  | .wRegister _ bytes => fitsFrame bytes.length
  | .flushTx => true
  | .flushRx => true
  | .configure _ _ => true
  | .drive => true
  | .reqPowerOn => true
  | .reqWake => true
  | .reqSleep => true
  | .notifyIrq => true
  | .notifyDone bytes => fitsCount bytes
  | .beginWrite _ bytes => fitsCount bytes
  | .beginRead _ _ => true
  | .beginCommand _ => true
  | .reservedHop7 => true
  | .reservedHopB => true
  | .reservedHopC => true
  | .reservedHopD => true
  | .reservedHopE => true
  | .reservedHopF => true

end Sys2Proof
end

