-- ==== Sys2Proof/Decode.lean ====
section
/-! DEFINITION. The decoder, total on every submission and rejecting by name, and after it the encoder written from the
same tables: R120 to R125, R129 and R132 of 30_encoding.md. -/

namespace Sys2Proof

/-! ## Command frames (R120 to R129) -/

/-- The command byte of a register command, R122: `opcode | zext_8(addr[4:0])`. -/
def registerCommand (opcode : Byte) (addr : BitVec 5) : Byte := opcode ||| addr.zeroExtend 8

/-- The frame of a write, R124 and R125: `txLen = 1 + n`, `rxLen = 0`; its opcode is the parameter `OP_WRITE`. -/
def writeFrame (p : Params) (addr : BitVec 5) (bytes : List Byte) : Frame :=
  { tx := registerCommand p.opWrite addr :: bytes, rxLen := 0 }

/-- The frame of a read of `n` register bytes, R125: `txLen = 1`, `rxLen = 1 + n`; its opcode is the parameter `OP_READ`. -/
def readFrame (p : Params) (addr : BitVec 5) (n : Nat) : Frame := { tx := [registerCommand p.opRead addr], rxLen := 1 + n }

/-- The frame of a fixed command, R123 and R125: one byte, nothing received. -/
def commandFrame (cmd : Byte) : Frame := { tx := [cmd], rxLen := 0 }

/-- `decodeCmd`, R129: total on all 256 bytes. -/
def decodeCmd (b : Byte) : WireCommand :=
  if b.extractLsb' 5 3 = 0b000 then .rRegister (b.extractLsb' 0 5)
  else if b.extractLsb' 5 3 = 0b001 then .wRegister (b.extractLsb' 0 5)
  else if b = Config.opFlushTx then .flushTx
  else if b = Config.opFlushRx then .flushRx
  else .notEmitted b

/-- The instruction a command frame stands for: its command byte by R129, its lengths by R125. -/
def decodeFrame (f : Frame) : Except DecodeError Instr :=
  match f.tx with
  | [] => .error .emptyFrame
  | b :: payload =>
    match decodeCmd b with
    | .rRegister addr =>
      if payload = [] ∧ 1 ≤ f.rxLen ∧ f.rxLen ≤ Config.bufCap then .ok (.rRegister addr (BitVec.ofNat 8 (f.rxLen - 1)))
      else .error .badLength
    | .wRegister addr =>
      if payload.length ≤ Config.maxAw ∧ f.rxLen = 0 then .ok (.wRegister addr payload) else .error .badLength
    | .flushTx => if payload = [] ∧ f.rxLen = 0 then .ok .flushTx else .error .badLength
    | .flushRx => if payload = [] ∧ f.rxLen = 0 then .ok .flushRx else .error .badLength
    | .notEmitted c => .error (.notEmitted c)

/-! ## Operand records of the host port (R132)

Byte 0 is the operation code, its high four bits 0; the operands follow in the order R132 lists them. A flag is one byte,
a handle four bytes, least significant first. DESIGN CHOICE (log entry 4). -/

/-- A flag byte. -/
def parseFlag (b : Byte) : Except DecodeError Bool :=
  if b = 0 then .ok false else if b = 1 then .ok true else .error (.badFlag b)

/-- The first pipe record of `bs`, and what follows it. -/
def parsePipe (bs : List Byte) : Except DecodeError (PipeRecord × List Byte) :=
  match bs with
  | en :: aa :: a0 :: a1 :: a2 :: a3 :: a4 :: h0 :: h1 :: h2 :: h3 :: rest =>
    match parseFlag en, parseFlag aa with
    | .ok e, .ok a => .ok ({ enabled := e, autoAck := a, address := ⟨a0, a1, a2, a3, a4⟩, callback := h3 ++ h2 ++ h1 ++ h0 }, rest)
    | .error x, _ => .error x
    | .ok _, .error x => .error x
  | _ => .error .truncated

/-- `k` pipe records, and what follows them. -/
def parsePipes : Nat → List Byte → Except DecodeError (List PipeRecord × List Byte)
  | 0, bs => .ok ([], bs)
  | k + 1, bs =>
    match parsePipe bs with
    | .error x => .error x
    | .ok (p, rest) =>
      match parsePipes k rest with
      | .error x => .error x
      | .ok (ps, rest') => .ok (p :: ps, rest')

/-- CONFIGURE's operands: `aw`, then six pipes. -/
def parseConfigure (bs : List Byte) : Except DecodeError Instr :=
  match bs with
  | [] => .error .truncated
  | aw :: rest =>
    match parsePipes Config.numPipes rest with
    | .error x => .error x
    | .ok ([p0, p1, p2, p3, p4, p5], []) => .ok (.configure aw ⟨p0, p1, p2, p3, p4, p5⟩)
    | .ok ([_, _, _, _, _, _], _ :: _) => .error .trailing
    | .ok _ => .error .truncated

/-- An operation without operands. -/
def parseNone (i : Instr) (bs : List Byte) : Except DecodeError Instr :=
  match bs with
  | [] => .ok i
  | _ :: _ => .error .trailing

/-- A count `n : u8` and then exactly `n` bytes. -/
def parseCounted (bs : List Byte) : Except DecodeError (List Byte) :=
  match bs with
  | [] => .error .truncated
  | n :: bytes =>
    if bytes.length < n.toNat then .error .truncated
    else if n.toNat < bytes.length then .error .trailing
    else .ok bytes

/-- NOTIFY_DONE's operands: `n`, then `n` bytes. -/
def parseNotifyDone (bs : List Byte) : Except DecodeError Instr :=
  match parseCounted bs with
  | .ok bytes => .ok (.notifyDone bytes)
  | .error x => .error x

/-- BEGIN_WRITE's operands: `addr`, `n`, then `n` bytes. -/
def parseBeginWrite (bs : List Byte) : Except DecodeError Instr :=
  match bs with
  | [] => .error .truncated
  | addr :: rest =>
    match parseCounted rest with
    | .ok bytes => .ok (.beginWrite addr bytes)
    | .error x => .error x

/-- BEGIN_READ's operands: `addr`, `n`. -/
def parseBeginRead (bs : List Byte) : Except DecodeError Instr :=
  match bs with
  | [addr, n] => .ok (.beginRead addr n)
  | _ :: _ :: _ :: _ => .error .trailing
  | _ => .error .truncated

/-- BEGIN_COMMAND's operand: `cmd`. -/
def parseBeginCommand (bs : List Byte) : Except DecodeError Instr :=
  match bs with
  | [cmd] => .ok (.beginCommand cmd)
  | _ :: _ :: _ => .error .trailing
  | [] => .error .truncated

/-- The operation a host-port record stands for, R132. A reserved code is refused before its operands are looked at
(R410, check 1), so any bytes may follow it. -/
def decodeHost (record : List Byte) : Except DecodeError Instr :=
  match record with
  | [] => .error .emptyRecord
  | hop :: bs =>
    match hop.toNat with
    | 0x0 => parseConfigure bs
    | 0x1 => parseNone .drive bs
    | 0x2 => parseNone .reqPowerOn bs
    | 0x3 => parseNone .reqWake bs
    | 0x4 => parseNone .reqSleep bs
    | 0x5 => parseNone .notifyIrq bs
    | 0x6 => parseNotifyDone bs
    | 0x7 => .ok .reservedHop7
    | 0x8 => parseBeginWrite bs
    | 0x9 => parseBeginRead bs
    | 0xA => parseBeginCommand bs
    | 0xB => .ok .reservedHopB
    | 0xC => .ok .reservedHopC
    | 0xD => .ok .reservedHopD
    | 0xE => .ok .reservedHopE
    | 0xF => .ok .reservedHopF
    | _ => .error (.notAHop hop)

/-- The instruction a submission stands for. -/
def decode (sub : Submission) : Except DecodeError Instr :=
  match sub with
  | .host record => decodeHost record
  | .frame f => decodeFrame f

/-! ## The encoder -/

/-- A flag as a byte. -/
def flagByte (b : Bool) : Byte := if b then 1 else 0

/-- One pipe record's bytes. -/
def encodePipe (p : PipeRecord) : List Byte :=
  [flagByte p.enabled, flagByte p.autoAck, p.address.b0, p.address.b1, p.address.b2, p.address.b3, p.address.b4,
    p.callback.extractLsb' 0 8, p.callback.extractLsb' 8 8, p.callback.extractLsb' 16 8, p.callback.extractLsb' 24 8]

/-- The six pipe records in ascending order. -/
def encodePipes (ps : Six PipeRecord) : List Byte :=
  encodePipe ps.c0 ++ (encodePipe ps.c1 ++ (encodePipe ps.c2 ++ (encodePipe ps.c3 ++ (encodePipe ps.c4 ++ encodePipe ps.c5))))

/-- A count byte and the bytes it counts. -/
def encodeCounted (bytes : List Byte) : List Byte := BitVec.ofNat 8 bytes.length :: bytes

/-- The submission of an instruction: a command frame for the four frames of the wire, a record for a host operation. The
frames are those of the encoding table of R121, whose `op` fields are the default opcodes (log entry 5). -/
def encode : Instr → Submission
  | .rRegister addr n => .frame (readFrame Config.defaultParams addr n.toNat)
  | .wRegister addr bytes => .frame (writeFrame Config.defaultParams addr bytes)
  | .flushTx => .frame (commandFrame Config.opFlushTx)
  | .flushRx => .frame (commandFrame Config.opFlushRx)
  | .configure aw pipes => .host (0x00 :: aw :: encodePipes pipes)
  | .drive => .host [0x01]
  | .reqPowerOn => .host [0x02]
  | .reqWake => .host [0x03]
  | .reqSleep => .host [0x04]
  | .notifyIrq => .host [0x05]
  | .notifyDone bytes => .host (0x06 :: encodeCounted bytes)
  | .beginWrite addr bytes => .host (0x08 :: addr :: encodeCounted bytes)
  | .beginRead addr n => .host [0x09, addr, n]
  | .beginCommand cmd => .host [0x0A, cmd]
  | .reservedHop7 => .host [0x07]
  | .reservedHopB => .host [0x0B]
  | .reservedHopC => .host [0x0C]
  | .reservedHopD => .host [0x0D]
  | .reservedHopE => .host [0x0E]
  | .reservedHopF => .host [0x0F]

/-! ## The opcode table's words -/

/-- How many operand bytes a host operation has when all of them are zero. -/
def zeroOperands (hop : Nat) : Nat :=
  match hop with
  | 0x0 => 1 + 11 * Config.numPipes
  | 0x6 => 1
  | 0x8 => 2
  | 0x9 => 2
  | 0xA => 1
  | _ => 0

/-- Where a word of the opcode table stands: a value below 0x10 is a host operation code with operands of zeros, any
other byte is a command byte with `n = 0`. The table's two formats overlap on 0x00 to 0x0F, which are also R_REGISTER
command bytes; the host port goes first there. DESIGN CHOICE (log entry 6). -/
def tableSubmission (nbits w : Nat) : Submission :=
  let b : Byte := BitVec.ofNat 8 (w % 2 ^ nbits)
  if b.toNat < 16 then .host (b :: List.replicate (zeroOperands b.toNat) 0)
  else .frame { tx := [b], rxLen := if b.extractLsb' 5 3 = 0b000 then 1 else 0 }

/-- The instruction the decoder reads from a word of the opcode table of `nbits` bits; no row is wider than a byte. -/
def decodeTableWord (nbits w : Nat) : Option Instr :=
  if nbits ≤ 8 ∧ w < 2 ^ nbits then
    match decode (tableSubmission nbits w) with
    | .ok i => some i
    | .error _ => none
  else none

end Sys2Proof
end

