-- ==== Sys2Proof/Machine/State.lean ====
section
/-! DEFINITION. All the state of the block (10_state.md), the model's own fields beside it, why a step can stop, and
the state after power-on reset. -/

namespace Sys2Proof.Machine

/-! ## Names of the interface -/

/-- The result codes of R400 (60_exceptions.md), in the order of their numbers 0 to 4. -/
inductive ResultCode where
  | ok
  | invalidAddressWidth
  | invalidP2P5Address
  | argumentError
  | protocolViolation
  deriving DecidableEq, Repr

/-- The closed set `FaultReason` of R407 (60_exceptions.md). -/
inductive FaultReason where
  | pvOverlap
  | pvConfigureBusy
  | pvSpuriousDone
  | pvOverlength
  | shortResponse
  deriving DecidableEq, Repr

/-- The set `faults` of R52: one membership bit for each reason, so that equal sets are equal data. -/
structure FaultRecord where
  pvOverlap : Bool
  pvConfigureBusy : Bool
  pvSpuriousDone : Bool
  pvOverlength : Bool
  shortResponse : Bool
  deriving DecidableEq, Repr

/-- What the block does on its output ports: a request on the bus-master port (R420), a drive of a GPIO line (R422). -/
inductive PortEvent where
  | busRequest (f : Frame)
  | setCS (level : Bool)
  | setCE (level : Bool)
  deriving DecidableEq, Repr

/-- One step of an agent of R28, as the schedule lists it (log entries 1 and 2). -/
inductive Event where
  /-- a submission made when no DRIVE is in progress: a DRIVE at a yield point first takes its next micro-step -/
  | call (sub : Submission)
  /-- a submission made at the yield point of a DRIVE in progress (R281); with none in progress, the same as `call` -/
  | atYield (sub : Submission)
  /-- the time input shows `ms` from here on (R424; `@t=<ms>` of R136) -/
  | time (ms : U64)
  /-- power is applied: reset (R450) -/
  | powerOn
  deriving DecidableEq, Repr

/-- Why the machine stops with a fault. -/
inductive Fault where
  /-- Raised by a time event below the value the time input last showed. Safe: R424 and U6 (93_implementation_defined.md)
  leave such a run out of the model; no instruction raises it. -/
  | timeWentBackwards
  deriving DecidableEq, Repr

/-- Why an instruction has no meaning. -/
inductive Refusal where
  /-- Raised by `exec` for an instruction that has no meaning yet. Safe; no arm of this model uses it. -/
  | notModelled (mnemonic : String)
  /-- Raised by the step for a submission that is no operand record and no frame of the block (log entry 13). Safe. -/
  | undecodable (why : DecodeError)
  deriving DecidableEq, Repr

/-! ## The state -/

/-- The register cache, R32. -/
structure Cache where
  config : Byte
  enAa : Byte
  enRxaddr : Byte
  setupAw : Byte
  status : Byte
  rxAddrP0 : Address
  rxAddrP1 : Address
  rxAddrP2 : Byte
  rxAddrP3 : Byte
  rxAddrP4 : Byte
  rxAddrP5 : Byte
  fifoStatus : Byte
  deriving DecidableEq, Repr

/-- The bundle, R30: all the state that CONFIGURE zeroes. -/
structure Bundle where
  /-- R31 -/
  configured : Bool
  /-- R32 -/
  cache : Cache
  /-- R43 -/
  pipe : Six PipeRecord
  /-- R45 -/
  txBuf : Six Byte
  txLen : Nat
  rxBuf : Six Byte
  rxLen : Nat
  rxCount : Nat
  ready : Bool
  /-- R46 -/
  busy : Bool
  /-- R47: a `u4`; the codes 12 to 15 name no lifecycle state. -/
  state : BitVec 4
  /-- R48 -/
  cfgStep : Fin 12
  /-- R49 -/
  powerOnReq : Bool
  wakeReq : Bool
  sleepReq : Bool
  irqPending : Bool
  /-- R50 -/
  deadline : U64
  deriving DecidableEq, Repr

/-- The whole machine. -/
structure State extends Bundle where
  /-- R51: chip-select, 1 = active. -/
  cs : Bool
  /-- R51: chip-enable, 1 = high. -/
  ce : Bool
  /-- R52 -/
  faults : FaultRecord
  /-- The model's own: R15 to R21 of 00_scope.md. No step writes it (log entry 7). -/
  params : Params
  /-- The model's own: what `Now()` reads (R423; log entry 10). -/
  now : U64
  /-- The model's own: a DRIVE has begun and is at a yield point (R281; log entry 2). -/
  driving : Bool
  /-- The model's own: the result code the last step returned to its caller, none if it returned none (log entry 11). -/
  result : Option ResultCode
  /-- The model's own: the block's outputs, newest first (log entry 11). -/
  port : List PortEvent
  /-- The model's own: the steps the agents take next (R28, R103; log entry 1). -/
  agenda : List Event
  deriving DecidableEq, Repr

/-! ## Reset -/

/-- An all-zero address. -/
def zeroAddress : Address := ⟨0, 0, 0, 0, 0⟩

/-- A pipe record with every field 0 and the null handle (R43). -/
def zeroPipe : PipeRecord := { enabled := false, autoAck := false, address := zeroAddress, callback := 0 }

/-- Six zero bytes. -/
def zeroBuffer : Six Byte := ⟨0, 0, 0, 0, 0, 0⟩

/-- Every cache entry 0. -/
def zeroCache : Cache where
  config := 0
  enAa := 0
  enRxaddr := 0
  setupAw := 0
  status := 0
  rxAddrP0 := zeroAddress
  rxAddrP1 := zeroAddress
  rxAddrP2 := 0
  rxAddrP3 := 0
  rxAddrP4 := 0
  rxAddrP5 := 0
  fifoStatus := 0

/-- The zero bundle: both the "power-on reset" and the "after CONFIGURE failure" column of R54. -/
def zeroBundle : Bundle where
  configured := false
  cache := zeroCache
  pipe := ⟨zeroPipe, zeroPipe, zeroPipe, zeroPipe, zeroPipe, zeroPipe⟩
  txBuf := zeroBuffer
  txLen := 0
  rxBuf := zeroBuffer
  rxLen := 0
  rxCount := 0
  ready := false
  busy := false
  state := 0
  cfgStep := 0
  powerOnReq := false
  wakeReq := false
  sleepReq := false
  irqPending := false
  deadline := 0

/-- The empty fault record. -/
def noFaults : FaultRecord where
  pvOverlap := false
  pvConfigureBusy := false
  pvSpuriousDone := false
  pvOverlength := false
  shortResponse := false

/-- Power-on reset, R450 and R54. `params` holds the spec's defaults (log entry 7); `now`, `result`, `port` and `agenda`
are the model's own, and their values here are DESIGN CHOICE (log entries 1, 10 and 11). -/
def State.reset : State where
  toBundle := zeroBundle
  cs := false
  ce := false
  faults := noFaults
  params := Config.defaultParams
  now := 0
  driving := false
  result := none
  port := []
  agenda := []

end Sys2Proof.Machine
end

