-- ==== Sys2Proof/Machine/Registers.lean ====
section
/-! DEFINITION. The register model, 40_register_model.md: each register's view, its decoding and encoding (R160 to R169),
and the peripheral's register map (R91, R171). Every view stores every bit of its byte. -/

namespace Sys2Proof.Machine

/-- CONFIG, R162. -/
structure ConfigView where
  rsv7 : BitVec 1
  maskRxDr : BitVec 1
  maskTxDs : BitVec 1
  maskMaxRt : BitVec 1
  enCrc : BitVec 1
  crco : BitVec 1
  pwrUp : BitVec 1
  primRx : BitVec 1
  deriving DecidableEq, Repr

/-- `decode_CONFIG`, R162. -/
def decodeConfig (b : Byte) : ConfigView where
  rsv7 := b.extractLsb' 7 1
  maskRxDr := b.extractLsb' 6 1
  maskTxDs := b.extractLsb' 5 1
  maskMaxRt := b.extractLsb' 4 1
  enCrc := b.extractLsb' 3 1
  crco := b.extractLsb' 2 1
  pwrUp := b.extractLsb' 1 1
  primRx := b.extractLsb' 0 1

/-- `encode_CONFIG`, R162. -/
def encodeConfig (v : ConfigView) : Byte :=
  v.rsv7 ++ v.maskRxDr ++ v.maskTxDs ++ v.maskMaxRt ++ v.enCrc ++ v.crco ++ v.pwrUp ++ v.primRx

/-- EN_AA, R163: bit i of `pipes` is ENAA_Pi. -/
structure EnAaView where
  rsv : BitVec 2
  pipes : BitVec 6
  deriving DecidableEq, Repr

/-- `decode_EN_AA`, R163. -/
def decodeEnAa (b : Byte) : EnAaView where
  rsv := b.extractLsb' 6 2
  pipes := b.extractLsb' 0 6

/-- `encode_EN_AA`, R163. -/
def encodeEnAa (v : EnAaView) : Byte := v.rsv ++ v.pipes

/-- EN_RXADDR, R164: bit i of `pipes` is ERX_Pi. -/
structure EnRxAddrView where
  rsv : BitVec 2
  pipes : BitVec 6
  deriving DecidableEq, Repr

/-- `decode_EN_RXADDR`, R164. -/
def decodeEnRxAddr (b : Byte) : EnRxAddrView where
  rsv := b.extractLsb' 6 2
  pipes := b.extractLsb' 0 6

/-- `encode_EN_RXADDR`, R164. -/
def encodeEnRxAddr (v : EnRxAddrView) : Byte := v.rsv ++ v.pipes

/-- SETUP_AW, R166. -/
structure SetupAwView where
  rsv : BitVec 6
  aw : BitVec 2
  deriving DecidableEq, Repr

/-- `decode_SETUP_AW`, R166. -/
def decodeSetupAw (b : Byte) : SetupAwView where
  rsv := b.extractLsb' 2 6
  aw := b.extractLsb' 0 2

/-- `encode_SETUP_AW`, R166. -/
def encodeSetupAw (v : SetupAwView) : Byte := v.rsv ++ v.aw

/-- STATUS, R168. -/
structure StatusView where
  rsv7 : BitVec 1
  rxDr : BitVec 1
  txDs : BitVec 1
  maxRt : BitVec 1
  rxPNo : BitVec 3
  txFull : BitVec 1
  deriving DecidableEq, Repr

/-- `decode_STATUS`, R168. -/
def decodeStatus (b : Byte) : StatusView where
  rsv7 := b.extractLsb' 7 1
  rxDr := b.extractLsb' 6 1
  txDs := b.extractLsb' 5 1
  maxRt := b.extractLsb' 4 1
  rxPNo := b.extractLsb' 1 3
  txFull := b.extractLsb' 0 1

/-- `encode_STATUS`, R168. -/
def encodeStatus (v : StatusView) : Byte := v.rsv7 ++ v.rxDr ++ v.txDs ++ v.maxRt ++ v.rxPNo ++ v.txFull

/-- What RX_P_NO names, R168. -/
inductive RxPipe where
  | pipe (no : BitVec 3)
  | unused
  | rxEmpty
  deriving DecidableEq, Repr

/-- `rxPipe`, R168. -/
def rxPipe (v : StatusView) : RxPipe :=
  if v.rxPNo ≤ 5 then .pipe v.rxPNo else if v.rxPNo = 0b110 then .unused else .rxEmpty

/-- FIFO_STATUS, R169. -/
structure FifoStatusView where
  rsv7 : BitVec 1
  txReuse : BitVec 1
  txFull : BitVec 1
  txEmpty : BitVec 1
  rsv32 : BitVec 2
  rxFull : BitVec 1
  rxEmpty : BitVec 1
  deriving DecidableEq, Repr

/-- `decode_FIFO_STATUS`, R169. -/
def decodeFifoStatus (b : Byte) : FifoStatusView where
  rsv7 := b.extractLsb' 7 1
  txReuse := b.extractLsb' 6 1
  txFull := b.extractLsb' 5 1
  txEmpty := b.extractLsb' 4 1
  rsv32 := b.extractLsb' 2 2
  rxFull := b.extractLsb' 1 1
  rxEmpty := b.extractLsb' 0 1

/-- `encode_FIFO_STATUS`, R169. -/
def encodeFifoStatus (v : FifoStatusView) : Byte :=
  v.rsv7 ++ v.txReuse ++ v.txFull ++ v.txEmpty ++ v.rsv32 ++ v.rxFull ++ v.rxEmpty

/-- The power-on field update of CONFIG, R161 with the function of R290: the named fields are assigned, the others kept. -/
def powerOnConfig (mask : BitVec 3) (b : Byte) : Byte :=
  encodeConfig { decodeConfig b with
    pwrUp := 1
    primRx := 1
    maskRxDr := mask.extractLsb' 2 1
    maskTxDs := mask.extractLsb' 1 1
    maskMaxRt := mask.extractLsb' 0 1 }

/-! ## The peripheral's register map (R91), with its own reset values (R171)

The peripheral is an oracle (R421): no rule of the block reads this table, which says what the register numbers mean. -/

/-- One register of the peripheral. -/
structure PeripheralRow where
  name : String
  addr : BitVec 5
  /-- the widest access in bytes -/
  width : Nat
  inScope : Bool
  /-- the value after the peripheral's own power-on reset, index 0 first, where R171 gives it -/
  resetValue : List Byte
  deriving DecidableEq, Repr

/-- R91's rows that name a register; an address without a row is reserved. -/
def peripheralMap : List PeripheralRow := [
  ⟨"CONFIG", 0x00, 1, true, [0x08]⟩,
  ⟨"EN_AA", 0x01, 1, true, [0x3F]⟩,
  ⟨"EN_RXADDR", 0x02, 1, true, [0x03]⟩,
  ⟨"SETUP_AW", 0x03, 1, true, [0x03]⟩,
  ⟨"SETUP_RETR", 0x04, 1, false, []⟩,
  ⟨"RF_CH", 0x05, 1, false, []⟩,
  ⟨"RF_SETUP", 0x06, 1, false, []⟩,
  ⟨"STATUS", 0x07, 1, true, [0x0E]⟩,
  ⟨"OBSERVE_TX", 0x08, 1, false, []⟩,
  ⟨"RPD", 0x09, 1, false, []⟩,
  ⟨"RX_ADDR_P0", 0x0A, 5, true, [0xE7, 0xE7, 0xE7, 0xE7, 0xE7]⟩,
  ⟨"RX_ADDR_P1", 0x0B, 5, true, [0xC2, 0xC2, 0xC2, 0xC2, 0xC2]⟩,
  ⟨"RX_ADDR_P2", 0x0C, 1, true, [0xC3]⟩,
  ⟨"RX_ADDR_P3", 0x0D, 1, true, [0xC4]⟩,
  ⟨"RX_ADDR_P4", 0x0E, 1, true, [0xC5]⟩,
  ⟨"RX_ADDR_P5", 0x0F, 1, true, [0xC6]⟩,
  ⟨"TX_ADDR", 0x10, 5, false, []⟩,
  ⟨"RX_PW_P0", 0x11, 1, false, []⟩,
  ⟨"RX_PW_P1", 0x12, 1, false, []⟩,
  ⟨"RX_PW_P2", 0x13, 1, false, []⟩,
  ⟨"RX_PW_P3", 0x14, 1, false, []⟩,
  ⟨"RX_PW_P4", 0x15, 1, false, []⟩,
  ⟨"RX_PW_P5", 0x16, 1, false, []⟩,
  ⟨"FIFO_STATUS", 0x17, 1, true, [0x01 ||| 0x10]⟩,
  ⟨"DYNPD", 0x1C, 1, false, []⟩,
  ⟨"FEATURE", 0x1D, 1, false, []⟩]

/-- The row of a register address, none for a reserved address. -/
def peripheralRow (addr : BitVec 5) : Option PeripheralRow := peripheralMap.find? fun r => r.addr == addr

/-- The address is one of the block's in-scope registers. -/
def inScopeRegister (addr : BitVec 5) : Bool := peripheralMap.any fun r => r.addr == addr && r.inScope

end Sys2Proof.Machine
end

