-- ==== Sys2Proof/Machine/Operands.lean ====
section
/-! DEFINITION. Operand forms and the block's arithmetic: pipe and byte indexing, address width (R42, R167), address
payloads (R170), buffers (R45), the saturating deadline (R293), lifecycle codes (R47), and the bus exchange and response
parse of a frame (R126, R128). -/

namespace Sys2Proof.Machine

/-! ## Indexing -/

/-- Entry `i` of six. -/
def sixAt {α : Type} (v : Six α) (i : Fin 6) : α :=
  match i with
  | 0 => v.c0
  | 1 => v.c1
  | 2 => v.c2
  | 3 => v.c3
  | 4 => v.c4
  | 5 => v.c5

/-- The bytes of an address, index 0 first. -/
def addressBytes (a : Address) : List Byte := [a.b0, a.b1, a.b2, a.b3, a.b4]

/-- The bytes of a buffer, index 0 first. -/
def bufferBytes (b : Six Byte) : List Byte := [b.c0, b.c1, b.c2, b.c3, b.c4, b.c5]

/-- `buf[0..n-1] <- bytes` for `n` bytes: the bytes from index `n` on keep their values (R111, R240). -/
def overwrite (buf : Six Byte) (bytes : List Byte) : Six Byte where
  c0 := bytes.getD 0 buf.c0
  c1 := bytes.getD 1 buf.c1
  c2 := bytes.getD 2 buf.c2
  c3 := bytes.getD 3 buf.c3
  c4 := bytes.getD 4 buf.c4
  c5 := bytes.getD 5 buf.c5

/-! ## Address width and addresses -/

/-- The width is one of the parameter `LEGAL_AW`, R202. -/
def legalWidth (p : Params) (aw : Byte) : Bool := p.legalAw.contains aw

/-- `awCode(w) = w - 2`, R167, in the two bits of R166; its callers check the width first. A width outside 3 to 5 has no
code; the spec fixes none for a LEGAL_AW that holds one (DESIGN CHOICE, log entry 7). -/
def awCode (w : Byte) : BitVec 2 := (w - 2).extractLsb' 0 2

/-- `widthOf`, R167: code 00 is illegal. -/
def widthOf (c : BitVec 2) : Option Byte := if c = 0b00 then none else some (c.zeroExtend 8 + 2)

/-- The width the block uses when it sends RX_ADDR_P0 and P1, R42. -/
def addressWidth (c : Cache) : Byte := (decodeSetupAw c.setupAw).aw.zeroExtend 8 + 2

/-- Bytes 0 to `aw - 1` of an address, the bytes from index `aw` on 0 (R39, R203). -/
def truncateAddress (aw : Byte) (a : Address) : Address where
  b0 := if 0 < aw.toNat then a.b0 else 0
  b1 := if 1 < aw.toNat then a.b1 else 0
  b2 := if 2 < aw.toNat then a.b2 else 0
  b3 := if 3 < aw.toNat then a.b3 else 0
  b4 := if 4 < aw.toNat then a.b4 else 0

/-- The addresses agree at the indices 1 to `aw - 1`: "the upper (addressWidth-1) bytes" of R204. -/
def upperBytesAgree (aw : Byte) (a r : Address) : Bool :=
  (!decide (1 < aw.toNat) || a.b1 == r.b1) && (!decide (2 < aw.toNat) || a.b2 == r.b2)
    && (!decide (3 < aw.toNat) || a.b3 == r.b3) && (!decide (4 < aw.toNat) || a.b4 == r.b4)

/-- `addrPayload(p)`, R170. -/
def addressPayload (c : Cache) (p : Fin 6) : List Byte :=
  match p with
  | 0 => (addressBytes c.rxAddrP0).take (addressWidth c).toNat
  | 1 => (addressBytes c.rxAddrP1).take (addressWidth c).toNat
  | 2 => [c.rxAddrP2]
  | 3 => [c.rxAddrP3]
  | 4 => [c.rxAddrP4]
  | 5 => [c.rxAddrP5]

/-! ## Time -/

/-- `satAdd64`, R293: `min(a + b, 2^64 - 1)`. -/
def satAdd64 (a b : U64) : U64 := BitVec.ofNat 64 (min (a.toNat + b.toNat) (2 ^ 64 - 1))

/-! ## Lifecycle codes -/

/-- The code of a lifecycle state, R47. -/
def stateCode : LifecycleState → BitVec 4
  | .powerOff => 0
  | .moduleStartup => 1
  | .configure => 2
  | .sleep => 3
  | .idle => 4
  | .externalInterrupt => 5
  | .statusReading => 6
  | .receive => 7
  | .receiving => 8
  | .transmit => 9
  | .transmitting => 10
  | .poweringOff => 11

/-- The lifecycle state of a code, none for 12 to 15 (R47). -/
def lifecycleOf (code : BitVec 4) : Option LifecycleState :=
  match code.toNat with
  | 0 => some .powerOff
  | 1 => some .moduleStartup
  | 2 => some .configure
  | 3 => some .sleep
  | 4 => some .idle
  | 5 => some .externalInterrupt
  | 6 => some .statusReading
  | 7 => some .receive
  | 8 => some .receiving
  | 9 => some .transmit
  | 10 => some .transmitting
  | 11 => some .poweringOff
  | _ => none

/-- The number of a result code, R400. -/
def resultNumber : ResultCode → Nat
  | .ok => 0
  | .invalidAddressWidth => 1
  | .invalidP2P5Address => 2
  | .argumentError => 3
  | .protocolViolation => 4

/-- `NEXT_AFTER_STATUS(status, fifo)`, R19 and R310, read from its table. -/
def nextAfterStatus (t : StatusTable) (status fifo : Byte) : LifecycleState :=
  match t.rules.find? fun r => status &&& r.statusMask == r.statusValue && fifo &&& r.fifoMask == r.fifoValue with
  | some r => r.target
  | none => t.otherwise

/-! ## The exchange of a frame and its response -/

/-- The length of the bus exchange, R126. -/
def exchangeLength (f : Frame) : Nat := max f.tx.length f.rxLen

/-- The bytes the transceiver sends, R126: the frame, then the parameter `FILL_BYTE` (R18) while a response is still
clocked in. -/
def exchangeOut (p : Params) (f : Frame) : List Byte := f.tx ++ List.replicate (f.rxLen - f.tx.length) p.fillByte

/-- The bytes it stores in `rxBuf` of those it receives, R126: the first `rxLen`. -/
def exchangeStored (f : Frame) (received : List Byte) : List Byte := received.take f.rxLen

/-- A parsed response, R128. -/
structure Response where
  status : Option Byte
  data : List Byte
  deriving DecidableEq, Repr

/-- The response parse, R128, for a completion of `m` bytes: bytes from index `m` on are no part of it. -/
def parseResponse (rxBuf : Six Byte) (m : Nat) : Response :=
  match (bufferBytes rxBuf).take m with
  | [] => { status := none, data := [] }
  | b :: rest => { status := some b, data := rest }

end Sys2Proof.Machine
end

