-- ==== Sys2Proof/Machine/Flags.lean ====
section
/-! DEFINITION. Every flag computation: the pipe masks (R165, R206, R207), the fault record (R407), and the four request
flags (R49, R314). -/

namespace Sys2Proof.Machine

/-- `bit(i) = 1 << i`, R165. -/
def pipeBit (i : Fin 6) : Byte := 1#8 <<< i.val

/-- `fault F` adds the reason to the record, R407; reasons are never removed. -/
def addFault (f : FaultReason) (r : FaultRecord) : FaultRecord :=
  match f with
  | .pvOverlap => { r with pvOverlap := true }
  | .pvConfigureBusy => { r with pvConfigureBusy := true }
  | .pvSpuriousDone => { r with pvSpuriousDone := true }
  | .pvOverlength => { r with pvOverlength := true }
  | .shortResponse => { r with shortResponse := true }

/-- The record after an operation that has a fault reason or none. -/
def recordFault (why : Option FaultReason) (r : FaultRecord) : FaultRecord :=
  match why with
  | some f => addFault f r
  | none => r

/-- The reason is in the record. -/
def hasFault (r : FaultRecord) (f : FaultReason) : Bool :=
  match f with
  | .pvOverlap => r.pvOverlap
  | .pvConfigureBusy => r.pvConfigureBusy
  | .pvSpuriousDone => r.pvSpuriousDone
  | .pvOverlength => r.pvOverlength
  | .shortResponse => r.shortResponse

/-- REQ_POWER_ON sets its flag, R340. -/
def setPowerOnReq (s : State) : State := { s with powerOnReq := true }

/-- REQ_WAKE sets its flag, R341. -/
def setWakeReq (s : State) : State := { s with wakeReq := true }

/-- REQ_SLEEP sets its flag, which nothing but CONFIGURE clears, R342 and R314. -/
def setSleepReq (s : State) : State := { s with sleepReq := true }

/-- NOTIFY_IRQ sets its flag, R343. -/
def setIrqPending (s : State) : State := { s with irqPending := true }

/-- The PowerOff handler consumes its flag, R290. -/
def clearPowerOnReq (s : State) : State := { s with powerOnReq := false }

/-- The Sleep handler consumes its flag, R300. -/
def clearWakeReq (s : State) : State := { s with wakeReq := false }

/-- The Idle handler consumes its flag, R301. -/
def clearIrqPending (s : State) : State := { s with irqPending := false }

end Sys2Proof.Machine
end

