-- ==== Sys2Proof/Machine/Ops.lean ====
section
/-! DEFINITION. The named operations over the state that the meanings share: ending an operation with a result or an
error, the output ports, time, beginning and completing a frame, and the clear slate. -/

namespace Sys2Proof.Machine

/-! ## Ending an operation -/

/-- The operation returns a result code to its caller, R400. -/
def returnCode (c : ResultCode) (s : State) : State := { s with result := some c }

/-- Error entry, R412 (R401 to R405): the operation ends with its result code and, where it has one, its fault reason is
recorded; nothing else is saved and no control is transferred. There is no return from it (R413): the caller issues its
next operation. -/
def raise (e : ResultCode) (why : Option FaultReason) (s : State) : State :=
  { s with faults := recordFault why s.faults, result := some e }

/-! ## Ports and time -/

/-- `SetCS(b)`, R422. -/
def setCS (b : Bool) (s : State) : State := { s with cs := b, port := .setCS b :: s.port }

/-- `SetCE(b)`, R422. -/
def setCE (b : Bool) (s : State) : State := { s with ce := b, port := .setCE b :: s.port }

/-- `BusRequest`, R420. -/
def busRequest (f : Frame) (s : State) : State := { s with port := .busRequest f :: s.port }

/-- `Now()`, R423. -/
def sampleNow (s : State) : U64 := s.now

/-! ## Frames -/

/-- The successful part of `Begin`, R240: chip-select active, readiness cleared, the frame in the buffer, the frame
outstanding, the request on the bus port. -/
def beginFrame (f : Frame) (s : State) : State :=
  busRequest f (setCS true { s with
    ready := false
    txBuf := overwrite s.txBuf f.tx
    txLen := f.tx.length
    rxLen := f.rxLen
    busy := true })

/-- `Begin`, R240: refused with PV_OVERLAP while a frame is outstanding (R242). -/
def engineBegin (f : Frame) (s : State) : State :=
  if s.busy then raise .protocolViolation (some .pvOverlap) s else returnCode .ok (beginFrame f s)

/-- The frame in the engine's buffer, as the bus transceiver reads it until it completes (R240, R420). -/
def engineFrame (s : State) : Frame := { tx := (bufferBytes s.txBuf).take s.txLen, rxLen := s.rxLen }

/-- The bytes the bus transceiver clocks out for the frame in the engine's buffer, R126 and R18: the frame's bytes, then
`FILL_BYTE` for the rest of the response. The exchange is the external transceiver's, so no step of the block performs it
(R7(a), R420). -/
def clockedOut (s : State) : List Byte := exchangeOut s.params (engineFrame s)

/-- The successful part of NOTIFY_DONE, R345: one atomic step (R98). -/
def completeFrame (bytes : List Byte) (s : State) : State :=
  setCS false { s with
    rxBuf := overwrite s.rxBuf bytes
    rxCount := bytes.length
    ready := true
    busy := false }

/-! ## Guards of the host port (R410) -/

/-- Checks 1 and 2 of R410: a disabled operation, then an unconfigured block, raise ArgumentError with no change. -/
def hostOperation (enabled : Bool) (act : State → State) (s : State) : State :=
  if !enabled then raise .argumentError none s
  else if !s.configured then raise .argumentError none s
  else act s

/-- An engine operation issued from outside the sequencer: R347, R244 and then `Begin`. -/
def engineOperation (inRange : Bool) (f : Frame) (s : State) : State :=
  hostOperation s.params.exposeEngine
    (fun s => if !inRange then raise .argumentError none s else engineBegin f s) s

/-! ## Reset -/

/-- `ZeroBundle()`, R201: `cs`, `ce` and `faults` are unchanged. -/
def clearSlate (s : State) : State := { s with toBundle := zeroBundle }

/-- Power-on reset of a running machine, R450: every piece of the block's state at its reset value. The parameters, the
time input and the schedule are not the block's and stay. -/
def powerOnReset (s : State) : State :=
  { State.reset with params := s.params, now := s.now, agenda := s.agenda }

end Sys2Proof.Machine
end

