-- ==== Sys2Proof/Machine/Configure.lean ====
section
/-! DEFINITION. 41_configuration_builder.md: CONFIGURE. -/

namespace Sys2Proof.Machine

/-- What the upper bytes of a pipe 2 to 5 address are compared with, R204 and R17. -/
def pipeReference (p : Params) (pipes : Six PipeRecord) (c : Cache) : Address :=
  match p.p2p5Reference with
  | .cache => c.rxAddrP1
  | .input => pipes.c1.address

/-- `cache[RX_ADDR_Pi] <- b` for a pipe that stores one byte, R204. -/
def storeLowByte (i : Fin 6) (b : Byte) (c : Cache) : Cache :=
  match i with
  | 2 => { c with rxAddrP2 := b }
  | 3 => { c with rxAddrP3 := b }
  | 4 => { c with rxAddrP4 := b }
  | 5 => { c with rxAddrP5 := b }
  | _ => c

/-- The address part of one pass of R210's loop, for an enabled pipe: R203 for pipes 0 and 1, R204 for the others. None:
the upper bytes differ. -/
def storeAddress (p : Params) (aw : Byte) (pipes : Six PipeRecord) (i : Fin 6) (c : Cache) : Option Cache :=
  match i with
  | 0 => some { c with rxAddrP0 := truncateAddress aw pipes.c0.address }
  | 1 => some { c with rxAddrP1 := truncateAddress aw pipes.c1.address }
  | i =>
    if upperBytesAgree aw (sixAt pipes i).address (pipeReference p pipes c) then
      some (storeLowByte i (sixAt pipes i).address.b0 c)
    else none

/-- The enable part: an enabled pipe's address is stored and its EN_RXADDR bit set (R206). -/
def enablePipe (p : Params) (aw : Byte) (pipes : Six PipeRecord) (i : Fin 6) (c : Cache) : Option Cache :=
  if (sixAt pipes i).enabled then
    match storeAddress p aw pipes i c with
    | none => none
    | some c => some { c with enRxaddr := c.enRxaddr ||| pipeBit i }
  else some c

/-- Whether pipe `i` sets its EN_AA bit, R207. -/
def acknowledges (p : Params) (r : PipeRecord) : Bool := r.autoAck && (r.enabled || !p.enAaRequiresEnable)

/-- One pass of R210's loop. -/
def buildPipe (p : Params) (aw : Byte) (pipes : Six PipeRecord) (i : Fin 6) (c : Cache) : Option Cache :=
  match enablePipe p aw pipes i c with
  | none => none
  | some c => some (if acknowledges p (sixAt pipes i) then { c with enAa := c.enAa ||| pipeBit i } else c)

/-- The loop of R210 over the pipes listed. -/
def buildPipes (p : Params) (aw : Byte) (pipes : Six PipeRecord) : List (Fin 6) → Cache → Option Cache
  | [], c => some c
  | i :: rest, c =>
    match buildPipe p aw pipes i c with
    | none => none
    | some c => buildPipes p aw pipes rest c

/-- CONFIG after a successful CONFIGURE, R209: EN_CRC alone. -/
def configuredConfig : Byte :=
  encodeConfig { rsv7 := 0, maskRxDr := 0, maskTxDs := 0, maskMaxRt := 0, enCrc := 1, crco := 0, pwrUp := 0, primRx := 0 }

/-- The cache CONFIGURE builds from a zero cache: SETUP_AW (R205), the pipes in ascending order, CONFIG (R209). -/
def buildCache (p : Params) (aw : Byte) (pipes : Six PipeRecord) : Option Cache :=
  match buildPipes p aw pipes [0, 1, 2, 3, 4, 5]
      { zeroCache with setupAw := encodeSetupAw { rsv := 0, aw := awCode aw } } with
  | none => none
  | some c => some { c with config := configuredConfig }

/-- CONFIGURE, R210: refused while a frame is outstanding (R214); else the clear slate, the width check (R202), the
build, and on success the pipe records (R208). -/
def configure (aw : Byte) (pipes : Six PipeRecord) (s : State) : State :=
  if s.busy then raise .protocolViolation (some .pvConfigureBusy) s
  else if !legalWidth s.params aw then raise .invalidAddressWidth none (clearSlate s)
  else
    match buildCache s.params aw pipes with
    | none => raise .invalidP2P5Address none (clearSlate s)
    | some c => returnCode .ok { clearSlate s with cache := c, pipe := pipes, configured := true }

/-- CONFIGURE, R210. -/
def execConfigure (aw : Byte) (pipes : Six PipeRecord) (s : State) : Host.Outcome State Fault Refusal :=
  .next (configure aw pipes s)

end Sys2Proof.Machine
end

