-- ==== Sys2Proof/Machine/Engine.lean ====
section
/-! DEFINITION. 42_transaction_engine.md: the begin operations of the host port, and the four command frames of the wire
given to the engine directly (`RegRead` and `RegWrite` of R137; log entry 5). -/

namespace Sys2Proof.Machine

/-- The register address is below 2^REG_ADDR_BITS: `addr ≤ 0x1F`, R243. -/
def registerInRange (addr : Byte) : Bool := addr.toNat < 2 ^ Config.regAddrBits

/-- The payload length is within `MAX_AW`, R245. -/
def lengthInRange (n : Nat) : Bool := n ≤ Config.maxAw

/-- BEGIN_WRITE, R246. -/
def execBeginWrite (addr : Byte) (bytes : List Byte) (s : State) : Host.Outcome State Fault Refusal :=
  .next (engineOperation (registerInRange addr && lengthInRange bytes.length)
    (writeFrame s.params (addr.extractLsb' 0 5) bytes) s)

/-- BEGIN_READ, R247. -/
def execBeginRead (addr n : Byte) (s : State) : Host.Outcome State Fault Refusal :=
  .next (engineOperation (registerInRange addr && lengthInRange n.toNat) (readFrame s.params (addr.extractLsb' 0 5) n.toNat) s)

/-- BEGIN_COMMAND, R248: only the two flush bytes are accepted. -/
def execBeginCommand (cmd : Byte) (s : State) : Host.Outcome State Fault Refusal :=
  .next (engineOperation (cmd == Config.opFlushTx || cmd == Config.opFlushRx) (commandFrame cmd) s)

/-- R_REGISTER, R247: the engine sends the frame of a read. -/
def execRRegister (addr : BitVec 5) (n : Byte) (s : State) : Host.Outcome State Fault Refusal :=
  .next (engineOperation (lengthInRange n.toNat) (readFrame s.params addr n.toNat) s)

/-- W_REGISTER, R246: the engine sends the frame of a write. -/
def execWRegister (addr : BitVec 5) (bytes : List Byte) (s : State) : Host.Outcome State Fault Refusal :=
  .next (engineOperation (lengthInRange bytes.length) (writeFrame s.params addr bytes) s)

/-- FLUSH_TX, R248: the engine sends the one byte 0xE1. -/
def execFlushTx (s : State) : Host.Outcome State Fault Refusal :=
  .next (engineOperation true (commandFrame Config.opFlushTx) s)

/-- FLUSH_RX, R248: the engine sends the one byte 0xE2. -/
def execFlushRx (s : State) : Host.Outcome State Fault Refusal :=
  .next (engineOperation true (commandFrame Config.opFlushRx) s)

end Sys2Proof.Machine
end

