-- ==== Sys2Proof/Machine/HostPort.lean ====
section
/-! DEFINITION. 44_host_port.md: requests, notifications, the completion, and the reserved operation codes. -/

namespace Sys2Proof.Machine

/-- REQ_POWER_ON, R340. -/
def execReqPowerOn (s : State) : Host.Outcome State Fault Refusal :=
  .next (hostOperation true (fun s => returnCode .ok (setPowerOnReq s)) s)

/-- REQ_WAKE, R341. -/
def execReqWake (s : State) : Host.Outcome State Fault Refusal :=
  .next (hostOperation true (fun s => returnCode .ok (setWakeReq s)) s)

/-- REQ_SLEEP, R342. -/
def execReqSleep (s : State) : Host.Outcome State Fault Refusal :=
  .next (hostOperation true (fun s => returnCode .ok (setSleepReq s)) s)

/-- NOTIFY_IRQ, R343. -/
def execNotifyIrq (s : State) : Host.Outcome State Fault Refusal :=
  .next (hostOperation true (fun s => returnCode .ok (setIrqPending s)) s)

/-- The state checks of NOTIFY_DONE and the completion, R345 and R410 (check 4). -/
def notifyDone (bytes : List Byte) (s : State) : State :=
  if !s.busy then raise .protocolViolation (some .pvSpuriousDone) s
  else if s.rxLen < bytes.length then raise .protocolViolation (some .pvOverlength) s
  else returnCode .ok (completeFrame bytes s)

/-- NOTIFY_DONE, R345. -/
def execNotifyDone (bytes : List Byte) (s : State) : Host.Outcome State Fault Refusal :=
  .next (hostOperation true (notifyDone bytes) s)

/-- Reserved operation 0x7, R347. -/
def execReservedHop7 (s : State) : Host.Outcome State Fault Refusal := .next (raise .argumentError none s)

/-- Reserved operation 0xB, R347. -/
def execReservedHopB (s : State) : Host.Outcome State Fault Refusal := .next (raise .argumentError none s)

/-- Reserved operation 0xC, R347. -/
def execReservedHopC (s : State) : Host.Outcome State Fault Refusal := .next (raise .argumentError none s)

/-- Reserved operation 0xD, R347. -/
def execReservedHopD (s : State) : Host.Outcome State Fault Refusal := .next (raise .argumentError none s)

/-- Reserved operation 0xE, R347. -/
def execReservedHopE (s : State) : Host.Outcome State Fault Refusal := .next (raise .argumentError none s)

/-- Reserved operation 0xF, R347. -/
def execReservedHopF (s : State) : Host.Outcome State Fault Refusal := .next (raise .argumentError none s)

end Sys2Proof.Machine
end

