-- ==== Sys2Proof/Machine/Sequencer.lean ====
section
/-! DEFINITION. 43_lifecycle_sequencer.md: DRIVE, its handlers, and the micro-steps of H_Configure. -/

namespace Sys2Proof.Machine

/-- `state <- X`. -/
def enter (x : LifecycleState) (s : State) : State := { s with state := stateCode x }

/-- H_PowerOff, R290: parked without a request; all or nothing when a frame is outstanding (R284). -/
def handlePowerOff (s : State) : State :=
  if !s.powerOnReq then returnCode .ok s
  else if s.busy then raise .protocolViolation (some .pvOverlap) s
  else
    let config := powerOnConfig s.params.powerOnIrqMask s.cache.config
    let deadline := satAdd64 (sampleNow s) s.params.startupSettleMs
    returnCode .ok (enter .moduleStartup
      (beginFrame (writeFrame s.params 0x00 [config]) { clearPowerOnReq s with deadline := deadline, cache := { s.cache with config := config } }))

/-- H_ModuleStartup, R292. -/
def handleModuleStartup (s : State) : State :=
  if s.ready = true ∧ s.deadline ≤ sampleNow s then returnCode .ok (enter .configure { s with cfgStep := 0 })
  else returnCode .ok s

/-- CFG_SEQ, R297: the frame of each step, none at step 11. -/
def configFrame (p : Params) (c : Cache) (k : Fin 12) : Option Frame :=
  match k with
  | 0 => some (writeFrame p 0x01 [c.enAa])
  | 1 => some (writeFrame p 0x02 [c.enRxaddr])
  | 2 => some (writeFrame p 0x03 [c.setupAw])
  | 3 => some (writeFrame p 0x0A (addressPayload c 0))
  | 4 => some (writeFrame p 0x0B (addressPayload c 1))
  | 5 => some (writeFrame p 0x0C (addressPayload c 2))
  | 6 => some (writeFrame p 0x0D (addressPayload c 3))
  | 7 => some (writeFrame p 0x0E (addressPayload c 4))
  | 8 => some (writeFrame p 0x0F (addressPayload c 5))
  | 9 => some (commandFrame Config.opFlushTx)
  | 10 => some (commandFrame Config.opFlushRx)
  | 11 => none

/-- A DRIVE returns `c` to its caller. -/
def driveReturns (c : ResultCode) (s : State) : State := returnCode c { s with driving := false }

/-- DRIVE reaches a yield point without returning, R281. -/
def driveYields (s : State) : State := { s with driving := true, result := none }

/-- One pass of H_Configure's loop, R295: it returns while the previous frame is outstanding, leaves after the last one,
and else issues the next frame and yields. A pass that finds another state than Configure (a CONFIGURE came at the yield
point) returns; DESIGN CHOICE, log entry 3. A begin that would fail is all or nothing (R284; R298 says it cannot). -/
def configurePass (s : State) : State :=
  if s.state ≠ stateCode .configure ∨ s.ready = false then driveReturns .ok s
  else
    match configFrame s.params s.cache s.cfgStep with
    | none => driveReturns .ok (enter .sleep { s with cfgStep := 0 })
    | some f =>
      if s.busy then raise .protocolViolation (some .pvOverlap) { s with driving := false }
      else driveYields { beginFrame f s with cfgStep := s.cfgStep + 1 }

/-- H_Sleep, R300. -/
def handleSleep (s : State) : State :=
  if s.wakeReq then returnCode .ok (enter .idle (setCE true (clearWakeReq s))) else returnCode .ok s

/-- H_Idle, R301. -/
def handleIdle (s : State) : State :=
  if s.irqPending then returnCode .ok (enter .externalInterrupt (clearIrqPending s)) else returnCode .ok s

/-- H_ExternalInterrupt, R305: the read of STATUS and FIFO_STATUS. -/
def handleExternalInterrupt (s : State) : State :=
  if s.busy then raise .protocolViolation (some .pvOverlap) s
  else returnCode .ok (enter .statusReading (beginFrame (readFrame s.params 0x17 1) s))

/-- H_StatusReading, R306, R308 to R310; a short response is recorded without a result code of its own. -/
def handleStatusReading (s : State) : State :=
  if !s.ready then returnCode .ok s
  else if s.rxCount < 2 then raise .ok (some .shortResponse) s
  else
    returnCode .ok (enter (nextAfterStatus s.params.nextAfterStatus s.rxBuf.c0 s.rxBuf.c1)
      { s with cache := { s.cache with status := s.rxBuf.c0, fifoStatus := s.rxBuf.c1 } })

/-- The total dispatch of R280 and R282: a handler for each of the twelve states, nothing for the codes 12 to 15 (R313). -/
def dispatchState (s : State) : State :=
  match lifecycleOf s.state with
  | some .powerOff => handlePowerOff s
  | some .moduleStartup => handleModuleStartup s
  | some .configure => configurePass s
  | some .sleep => handleSleep s
  | some .idle => handleIdle s
  | some .externalInterrupt => handleExternalInterrupt s
  | some .statusReading => handleStatusReading s
  | some .receive => returnCode .ok s
  | some .receiving => returnCode .ok s
  | some .transmit => returnCode .ok s
  | some .transmitting => returnCode .ok s
  | some .poweringOff => returnCode .ok s
  | none => returnCode .ok s

/-- DRIVE, R280, as the sequencer context's next micro-step: of the DRIVE in progress, or the first of a new one. -/
def execDrive (s : State) : Host.Outcome State Fault Refusal :=
  .next (if s.params.includeSequencer && s.driving then configurePass s
    else hostOperation s.params.includeSequencer dispatchState s)

end Sys2Proof.Machine
end

