-- ==== Sys2Proof/Machine/Dispatch.lean ====
section
/-! DEFINITION. One arm per constructor of Instr, each a direct call of its meaning. -/

namespace Sys2Proof.Machine

def exec (i : Instr) (s : State) : Host.Outcome State Fault Refusal :=
  match i with
  | .rRegister addr n => Sys2Proof.Machine.execRRegister addr n s
  | .wRegister addr bytes => Sys2Proof.Machine.execWRegister addr bytes s
  | .flushTx => Sys2Proof.Machine.execFlushTx s
  | .flushRx => Sys2Proof.Machine.execFlushRx s
  | .configure aw pipes => Sys2Proof.Machine.execConfigure aw pipes s
  | .drive => Sys2Proof.Machine.execDrive s
  | .reqPowerOn => Sys2Proof.Machine.execReqPowerOn s
  | .reqWake => Sys2Proof.Machine.execReqWake s
  | .reqSleep => Sys2Proof.Machine.execReqSleep s
  | .notifyIrq => Sys2Proof.Machine.execNotifyIrq s
  | .notifyDone bytes => Sys2Proof.Machine.execNotifyDone bytes s
  | .beginWrite addr bytes => Sys2Proof.Machine.execBeginWrite addr bytes s
  | .beginRead addr n => Sys2Proof.Machine.execBeginRead addr n s
  | .beginCommand cmd => Sys2Proof.Machine.execBeginCommand cmd s
  | .reservedHop7 => Sys2Proof.Machine.execReservedHop7 s
  | .reservedHopB => Sys2Proof.Machine.execReservedHopB s
  | .reservedHopC => Sys2Proof.Machine.execReservedHopC s
  | .reservedHopD => Sys2Proof.Machine.execReservedHopD s
  | .reservedHopE => Sys2Proof.Machine.execReservedHopE s
  | .reservedHopF => Sys2Proof.Machine.execReservedHopF s

end Sys2Proof.Machine
end

