-- ==== Sys2Proof/Machine/Schedule.lean ====
section
/-! DEFINITION. Whose turn it is: the schedule of the agents (R28, R103) read from the agenda, and the fetch of the next
submission. The step calls `nextTurn` and runs what it answers (log entries 1 and 2). -/

namespace Sys2Proof.Machine

/-- What the next step is. -/
inductive Turn where
  /-- no agent steps -/
  | idle
  /-- an instruction runs in this state -/
  | run (i : Instr) (s : State)
  /-- the environment has stepped -/
  | environment (s : State)
  /-- the run leaves the model -/
  | stop (why : Fault)
  /-- the submission is no instruction -/
  | refuse (why : Refusal)
  deriving DecidableEq, Repr

/-- The event waits until the DRIVE in progress has returned. -/
def waitsForDrive : Event → Bool
  | .call _ => true
  | .atYield _ => false
  | .time _ => false
  | .powerOn => false

/-- A submission is decoded and run. -/
def runSubmission (sub : Submission) (s : State) : Turn :=
  match decode sub with
  | .ok i => .run i s
  | .error e => .refuse (.undecodable e)

/-- The time input moves to `ms`, never back (R424). -/
def moveTime (ms : U64) (s : State) : Turn :=
  if s.now ≤ ms then .environment { s with now := ms, result := none } else .stop .timeWentBackwards

/-- An event is taken from the agenda and acts. -/
def runEvent (e : Event) (s : State) : Turn :=
  match e with
  | .call sub => runSubmission sub s
  | .atYield sub => runSubmission sub s
  | .time ms => moveTime ms s
  | .powerOn => .environment (powerOnReset s)

/-- The next turn. A DRIVE at a yield point takes its next micro-step when the agenda is empty or its next event waits for
the DRIVE; otherwise the next event acts. -/
def nextTurn (s : State) : Turn :=
  match s.agenda with
  | [] => if s.driving then .run .drive s else .idle
  | e :: rest => if s.driving && waitsForDrive e then .run .drive s else runEvent e { s with agenda := rest }

/-- A submission is put at the front of the schedule, to act in the very next step. -/
def submitNext (sub : Submission) (s : State) : State := { s with agenda := .atYield sub :: s.agenda }

end Sys2Proof.Machine
end

