-- ==== Sys2Proof/Machine/Step.lean ====
section
/-! DEFINITION. One step of the machine, and the placing of an opcode-table word where the next step fetches. -/

namespace Sys2Proof.Machine

/-- One step of one agent (R103). With no agent to step, the state stays. -/
def step (s : State) : Host.Outcome State Fault Refusal :=
  match nextTurn s with
  | .idle => .next s
  | .run i s => exec i s
  | .environment s => .next s
  | .stop why => .fault why
  | .refuse why => .refused why

/-- The word of an opcode-table row, with zeros above it, submitted for the very next step: the block fetches from no
memory (R109), so the submission goes to the front of the agenda (log entry 1). -/
def State.withFetchWord (s : State) (nbits w : Nat) : State := submitNext (tableSubmission nbits w) s

end Sys2Proof.Machine
end

