-- ==== Sys2Proof/Safety.lean ====
section
/-! DEFINITION. What a claim can rely on in a run: the invariants of the engine (R251) and of the register cache, the
clean runs of R407, and the words in which the statements say what an operation does. -/

namespace Sys2Proof.Machine

/-! ## Counting the frames of the bus-master port -/

/-- The frames the block has requested, newest first. -/
def framesOf : List PortEvent → List Frame
  | [] => []
  | .busRequest f :: rest => f :: framesOf rest
  | .setCS _ :: rest => framesOf rest
  | .setCE _ :: rest => framesOf rest

/-- How many frames the block has requested. -/
def requestCount : List PortEvent → Nat
  | [] => 0
  | .busRequest _ :: rest => requestCount rest + 1
  | .setCS _ :: rest => requestCount rest
  | .setCE _ :: rest => requestCount rest

/-- How many frames have completed: chip-select is released at a completion and nowhere else (R422). -/
def completionCount : List PortEvent → Nat
  | [] => 0
  | .busRequest _ :: rest => completionCount rest
  | .setCS level :: rest => completionCount rest + (!level).toNat
  | .setCE _ :: rest => completionCount rest

/-! ## Invariants -/

/-- R251 with the bounds of R45 and the rule of R48 and R455 for `cfgStep`. -/
structure EngineInv (s : State) : Prop where
  /-- (I-b) -/
  busyLine : s.busy = true → s.ready = false ∧ s.cs = true
  /-- (I-c) -/
  idleLine : s.busy = false → s.cs = false
  /-- (I-a) -/
  oneFrame : requestCount s.port = completionCount s.port + s.busy.toNat
  txFits : s.txLen ≤ Config.bufCap
  rxFits : s.rxLen ≤ Config.bufCap
  countFits : s.rxCount ≤ Config.bufCap
  countWithin : s.ready = true → s.rxCount ≤ s.rxLen
  stepZero : s.state ≠ stateCode .configure → s.cfgStep = 0

/-- Every width of `LEGAL_AW` is one that SETUP_AW can code (R36, R167) and that fits an address register (R10, R39). -/
def CodableWidths (p : Params) : Prop := ∀ w ∈ p.legalAw, w = 3 ∨ w = 4 ∨ w = 5

/-- What the cache holds in a run from reset (R31, R33 to R36, R39, R54), with parameters R167 can code. -/
structure CacheInv (s : State) : Prop where
  widths : CodableWidths s.params
  blank : s.configured = false → s.toBundle = zeroBundle
  width : s.configured = true → s.cache.setupAw = 1 ∨ s.cache.setupAw = 2 ∨ s.cache.setupAw = 3
  crcEnabled : s.configured = true → (decodeConfig s.cache.config).enCrc = 1
  configReserved : (decodeConfig s.cache.config).rsv7 = 0 ∧ (decodeConfig s.cache.config).crco = 0
  masksReserved : (decodeEnAa s.cache.enAa).rsv = 0 ∧ (decodeEnRxAddr s.cache.enRxaddr).rsv = 0
  masks : ∀ i : Fin 6, s.configured = true →
    s.cache.enRxaddr.getLsbD i = (sixAt s.pipe i).enabled ∧ s.cache.enAa.getLsbD i = acknowledges s.params (sixAt s.pipe i)
  addresses : truncateAddress (addressWidth s.cache) s.cache.rxAddrP0 = s.cache.rxAddrP0 ∧
    truncateAddress (addressWidth s.cache) s.cache.rxAddrP1 = s.cache.rxAddrP1

/-- A run that has met no undefined point of the reference, R407. -/
def Clean (s : State) : Prop := s.faults = noFaults

/-- The parameters are a legal choice: R21, and widths that SETUP_AW can code. -/
def LegalParams (p : Params) : Prop := (p.includeSequencer = true ∨ p.exposeEngine = true) ∧ CodableWidths p

/-! ## The words of the statements -/

/-- The outcome is the next state `s` with an error raised and nothing else changed. -/
def RaisesOnly (e : ResultCode) (s : State) (o : Host.Outcome State Fault Refusal) : Prop :=
  o = .next { s with result := some e }

/-- The outcome is the next state `s` with one fault reason recorded and ProtocolViolation returned. -/
def Violates (f : FaultReason) (s : State) (o : Host.Outcome State Fault Refusal) : Prop :=
  ∃ r : FaultRecord, (∀ g, hasFault r g = (hasFault s.faults g || g = f)) ∧
    o = .next { s with faults := r, result := some .protocolViolation }

/-- `t` is `s` with the frame `f` begun: chip-select active, readiness cleared, the frame's bytes at the front of the
buffer, its lengths set, the frame outstanding and requested (R240). -/
def Begun (f : Frame) (s t : State) : Prop :=
  ∃ buf : Six Byte, bufferBytes buf = f.tx ++ (bufferBytes s.txBuf).drop f.tx.length ∧
    t = { s with cs := true, ready := false, txBuf := buf, txLen := f.tx.length, rxLen := f.rxLen, busy := true,
                 port := .busRequest f :: .setCS true :: s.port }

/-- The outcome sends the frame `f` and returns OK. -/
def Sends (f : Frame) (s : State) (o : Host.Outcome State Fault Refusal) : Prop :=
  ∃ t, Begun f s t ∧ o = .next { t with result := some .ok }

/-- Byte `k` of an address, 0 from index 5 on. -/
def addressByte (a : Address) (k : Nat) : Byte := (addressBytes a).getD k 0

/-- The address pipes 2 to 5 are compared with (R204, R17): the pipe 1 entry as built, or pipe 1's input. -/
def comparedWith (p : Params) (pipes : Six PipeRecord) : Address :=
  if p.p2p5Reference = .cache ∧ pipes.c1.enabled = false then zeroAddress else pipes.c1.address

/-- The check of R204: every enabled pipe 2 to 5 agrees with the reference at the indices 1 to `aw - 1`. -/
def PipesAgree (p : Params) (aw : Byte) (pipes : Six PipeRecord) : Prop :=
  ∀ i : Fin 6, 2 ≤ i.val → (sixAt pipes i).enabled = true → ∀ k : Nat, 1 ≤ k → k < aw.toNat →
    addressByte (sixAt pipes i).address k = addressByte (comparedWith p pipes) k

/-- The cache a successful CONFIGURE leaves, entry by entry (R203 to R209). -/
structure BuiltCache (p : Params) (aw : Byte) (pipes : Six PipeRecord) (c : Cache) : Prop where
  config : c.config = 0x08
  setupAw : c.setupAw = aw - 2
  status : c.status = 0 ∧ c.fifoStatus = 0
  enRxaddr : ∀ i : Fin 6, c.enRxaddr.getLsbD i = (sixAt pipes i).enabled
  enAa : ∀ i : Fin 6, c.enAa.getLsbD i =
    ((sixAt pipes i).autoAck && ((sixAt pipes i).enabled || !p.enAaRequiresEnable))
  reserved : (decodeEnRxAddr c.enRxaddr).rsv = 0 ∧ (decodeEnAa c.enAa).rsv = 0
  fullP0 : ∀ k : Nat, addressByte c.rxAddrP0 k =
    if pipes.c0.enabled = true ∧ k < aw.toNat then addressByte pipes.c0.address k else 0
  fullP1 : ∀ k : Nat, addressByte c.rxAddrP1 k =
    if pipes.c1.enabled = true ∧ k < aw.toNat then addressByte pipes.c1.address k else 0
  lowP2 : c.rxAddrP2 = if pipes.c2.enabled then pipes.c2.address.b0 else 0
  lowP3 : c.rxAddrP3 = if pipes.c3.enabled then pipes.c3.address.b0 else 0
  lowP4 : c.rxAddrP4 = if pipes.c4.enabled then pipes.c4.address.b0 else 0
  lowP5 : c.rxAddrP5 = if pipes.c5.enabled then pipes.c5.address.b0 else 0

/-- The eleven frames of the configure sequence for a cache, in order, as R297's table writes them; a command byte is
`OP_WRITE | addr` (R122). -/
def configureSequence (p : Params) (c : Cache) : List Frame :=
  [⟨[p.opWrite ||| 0x01, c.enAa], 0⟩, ⟨[p.opWrite ||| 0x02, c.enRxaddr], 0⟩, ⟨[p.opWrite ||| 0x03, c.setupAw], 0⟩,
   ⟨(p.opWrite ||| 0x0A) :: (addressBytes c.rxAddrP0).take (addressWidth c).toNat, 0⟩,
   ⟨(p.opWrite ||| 0x0B) :: (addressBytes c.rxAddrP1).take (addressWidth c).toNat, 0⟩,
   ⟨[p.opWrite ||| 0x0C, c.rxAddrP2], 0⟩, ⟨[p.opWrite ||| 0x0D, c.rxAddrP3], 0⟩,
   ⟨[p.opWrite ||| 0x0E, c.rxAddrP4], 0⟩, ⟨[p.opWrite ||| 0x0F, c.rxAddrP5], 0⟩,
   ⟨[0xE1], 0⟩, ⟨[0xE2], 0⟩]

/-- The frame of one of the four wire forms under the parameters: its bytes by R122 and R123, its lengths by R125. -/
def emittedFrame (p : Params) : Instr → Option Frame
  | .rRegister addr n => some ⟨[p.opRead ||| addr.zeroExtend 8], 1 + n.toNat⟩
  | .wRegister addr bytes => some ⟨(p.opWrite ||| addr.zeroExtend 8) :: bytes, 0⟩
  | .flushTx => some ⟨[0xE1], 0⟩
  | .flushRx => some ⟨[0xE2], 0⟩
  | _ => none

/-- The frame is the well-formed form `j` under the parameters; at the default opcodes the decoder of R129 reads `j` from
it. -/
def IsForm (p : Params) (f : Frame) (j : Instr) : Prop :=
  WellFormed j = true ∧ emittedFrame p j = some f ∧ (p.opRead = 0x00 → p.opWrite = 0x20 → decodeFrame f = .ok j)

/-- The block can run a DRIVE of its own: configured, sequencer present, no DRIVE in progress. -/
def DriveReady (s : State) : Prop := s.configured = true ∧ s.params.includeSequencer = true ∧ s.driving = false

/-- The frame is a read or write of one of the block's own registers, or a flush (R91, R92). -/
def inScopeFrame : Instr → Bool
  | .rRegister addr _ => inScopeRegister addr
  | .wRegister addr _ => inScopeRegister addr
  | .flushTx => true
  | .flushRx => true
  | _ => false

/-- The transition graph of DRIVE, R315: from `s`, in one micro-step, to the code `x`. -/
inductive Transition (s : State) : BitVec 4 → Prop where
  | powerOff : s.state = stateCode .powerOff → s.powerOnReq = true → s.busy = false → Transition s (stateCode .moduleStartup)
  | moduleStartup : s.state = stateCode .moduleStartup → s.ready = true → s.deadline ≤ s.now →
      Transition s (stateCode .configure)
  | configure : s.state = stateCode .configure → s.ready = true → s.cfgStep = 11 → Transition s (stateCode .sleep)
  | sleep : s.state = stateCode .sleep → s.wakeReq = true → Transition s (stateCode .idle)
  | idle : s.state = stateCode .idle → s.irqPending = true → Transition s (stateCode .externalInterrupt)
  | externalInterrupt : s.state = stateCode .externalInterrupt → s.busy = false → Transition s (stateCode .statusReading)
  | statusReading : s.state = stateCode .statusReading → s.ready = true → 2 ≤ s.rxCount →
      Transition s (stateCode (nextAfterStatus s.params.nextAfterStatus s.rxBuf.c0 s.rxBuf.c1))

/-- The instruction is a begin operation or a command frame for the engine. -/
def isEngineOperation : Instr → Bool
  | .rRegister _ _ => true
  | .wRegister _ _ => true
  | .flushTx => true
  | .flushRx => true
  | .beginWrite _ _ => true
  | .beginRead _ _ => true
  | .beginCommand _ => true
  | _ => false

/-- The operands of an engine operation are in range (R243, R245, R248). -/
def operandsInRange : Instr → Bool
  | .rRegister _ n => n.toNat ≤ 5
  | .wRegister _ bytes => bytes.length ≤ 5
  | .beginWrite addr bytes => addr.toNat ≤ 0x1F && bytes.length ≤ 5
  | .beginRead addr n => addr.toNat ≤ 0x1F && n.toNat ≤ 5
  | .beginCommand cmd => cmd == 0xE1 || cmd == 0xE2
  | _ => true

/-- The instruction is CONFIGURE. -/
def isConfigure : Instr → Bool
  | .configure _ _ => true
  | _ => false

/-- The instruction is NOTIFY_DONE. -/
def isNotifyDone : Instr → Bool
  | .notifyDone _ => true
  | _ => false

end Sys2Proof.Machine
end

