-- ==== Sys2Proof/Certificates/Slice0/Obligations.lean ====
section
/-! DEFINITION. The statements for the provers, in the order of the spec's files. -/

open Sys2Proof Sys2Proof.Machine

/-! ## Reset, schedule and step -/

/-- R450 with the power-on column of R54: the zero bundle field by field, the outputs low, no fault recorded. -/
def Obligations.ResetIsPowerOnColumn : Prop :=
  ∀ s : State, s = State.reset →
  (s.configured = false ∧ s.state = stateCode .powerOff ∧ s.cfgStep = 0 ∧ s.ready = false ∧ s.busy = false) ∧
  (s.cache.config = 0 ∧ s.cache.enAa = 0 ∧ s.cache.enRxaddr = 0 ∧ s.cache.setupAw = 0 ∧ s.cache.status = 0 ∧
    s.cache.fifoStatus = 0) ∧
  (addressBytes s.cache.rxAddrP0 = [0, 0, 0, 0, 0] ∧ addressBytes s.cache.rxAddrP1 = [0, 0, 0, 0, 0] ∧
    s.cache.rxAddrP2 = 0 ∧ s.cache.rxAddrP3 = 0 ∧ s.cache.rxAddrP4 = 0 ∧ s.cache.rxAddrP5 = 0) ∧
  (∀ i : Fin 6, (sixAt s.pipe i).enabled = false ∧ (sixAt s.pipe i).autoAck = false ∧
    addressBytes (sixAt s.pipe i).address = [0, 0, 0, 0, 0] ∧ (sixAt s.pipe i).callback = 0) ∧
  (bufferBytes s.txBuf = [0, 0, 0, 0, 0, 0] ∧ bufferBytes s.rxBuf = [0, 0, 0, 0, 0, 0] ∧
    s.txLen = 0 ∧ s.rxLen = 0 ∧ s.rxCount = 0) ∧
  (s.powerOnReq = false ∧ s.wakeReq = false ∧ s.sleepReq = false ∧ s.irqPending = false ∧ s.deadline = 0) ∧
  (s.cs = false ∧ s.ce = false ∧ ∀ g, hasFault s.faults g = false)

/-- The two invariants hold right after reset. -/
def Obligations.ResetMeetsInvariants : Prop := EngineInv State.reset ∧ CacheInv State.reset

/-- A submission at the front of the agenda that decodes to `i` makes the step `exec i`, on the state without that event:
a `call` when no DRIVE is in progress, an `atYield` in any state (the model's schedule, log entries 1 and 2). -/
def Obligations.StepRunsDecodedSubmission : Prop :=
  ∀ (s : State) (sub : Submission) (rest : List Event) (i : Instr), decode sub = .ok i →
    (s.agenda = .call sub :: rest → s.driving = false → step s = exec i { s with agenda := rest }) ∧
    (s.agenda = .atYield sub :: rest → step s = exec i { s with agenda := rest })

/-- A DRIVE at a yield point takes its next micro-step when nothing is scheduled or a `call` waits for it, and the
agenda is kept (R281 with the model's schedule, log entry 2). -/
def Obligations.StepContinuesDrive : Prop :=
  ∀ (s : State) (sub : Submission) (rest : List Event), s.driving = true →
    s.agenda = [] ∨ s.agenda = .call sub :: rest → step s = exec .drive s

/-- The environment's events: time moves on and never back, power-on gives the reset state of the block, and with no
event and no DRIVE in progress nothing changes (R424, R450; log entries 1, 10 and 12). -/
def Obligations.StepEnvironment : Prop :=
  ∀ (s : State) (ms : U64) (rest : List Event),
    (s.agenda = .time ms :: rest → s.now.toNat ≤ ms.toNat →
      step s = .next { s with agenda := rest, now := ms, result := none }) ∧
    (s.agenda = .time ms :: rest → ms.toNat < s.now.toNat → step s = .fault .timeWentBackwards) ∧
    (s.agenda = .powerOn :: rest →
      step s = .next { State.reset with agenda := rest, now := s.now, params := s.params }) ∧
    (s.agenda = [] → s.driving = false → step s = .next s)

/-- A word of the opcode table put where the step fetches is the instruction the very next step runs. -/
def Obligations.FetchWordRuns : Prop :=
  ∀ (s : State) (nbits w : Nat) (i : Instr), decodeTableWord nbits w = some i →
    step (s.withFetchWord nbits w) = exec i s

/-! ## Encodings -/

/-- Words written out from the encodings of R121, R123 and R132. -/
def Obligations.WrittenWordsDecode : Prop :=
  decode (.frame ⟨[0b00010111#8], 2⟩) = .ok (.rRegister 0x17 1) ∧
  decode (.frame ⟨[0b00100001#8, 0x07], 0⟩) = .ok (.wRegister 0x01 [0x07]) ∧
  decode (.frame ⟨[0b11100001#8], 0⟩) = .ok .flushTx ∧
  decode (.frame ⟨[0b11100010#8], 0⟩) = .ok .flushRx ∧
  decode (.host [0b0001#8]) = .ok .drive ∧
  decode (.host [0b0110#8, 2, 0x0E, 0x01]) = .ok (.notifyDone [0x0E, 0x01]) ∧
  decode (.host [0b1000#8, 0x0A, 1, 0xE7]) = .ok (.beginWrite 0x0A [0xE7]) ∧
  decode (.host [0b1100#8]) = .ok .reservedHopC

/-- R129: the decoder of command bytes, on all 256 values. -/
def Obligations.CommandByteDecoder : Prop :=
  ∀ b : Byte,
    (b.toNat / 32 = 0 → decodeCmd b = .rRegister (BitVec.ofNat 5 (b.toNat % 32))) ∧
    (b.toNat / 32 = 1 → decodeCmd b = .wRegister (BitVec.ofNat 5 (b.toNat % 32))) ∧
    (b = 0xE1 → decodeCmd b = .flushTx) ∧ (b = 0xE2 → decodeCmd b = .flushRx) ∧
    (2 ≤ b.toNat / 32 → b ≠ 0xE1 → b ≠ 0xE2 → decodeCmd b = .notEmitted b)

/-- Decoding the encoding of a well-formed instruction gives it back, with every operand. -/
def Obligations.DecodeEncode : Prop := ∀ i : Instr, WellFormed i = true → decode (encode i) = .ok i

/-- Every frame an operation requests is one of the four forms of R129, with the opcodes of R122 and the lengths of R125;
at the default opcodes the decoder reads that form from it. -/
def Obligations.EmittedFramesAreOfTheFourForms : Prop :=
  ∀ (i : Instr) (s t : State) (f : Frame), exec i s = .next t → t.port = .busRequest f :: .setCS true :: s.port →
    ∃ j, IsForm s.params f j

/-- Every frame DRIVE requests goes to an in-scope register of R91 or flushes a FIFO. -/
def Obligations.DriveFramesAreInScope : Prop :=
  ∀ (s t : State) (f : Frame), exec .drive s = .next t → t.port = .busRequest f :: .setCS true :: s.port →
    ∃ j, IsForm s.params f j ∧ inScopeFrame j = true

/-! ## The register model -/

/-- R160: both round trips of each register view. -/
def Obligations.RegisterViewsRoundTrip : Prop :=
  ((∀ b, encodeConfig (decodeConfig b) = b) ∧ ∀ v, decodeConfig (encodeConfig v) = v) ∧
  ((∀ b, encodeEnAa (decodeEnAa b) = b) ∧ ∀ v, decodeEnAa (encodeEnAa v) = v) ∧
  ((∀ b, encodeEnRxAddr (decodeEnRxAddr b) = b) ∧ ∀ v, decodeEnRxAddr (encodeEnRxAddr v) = v) ∧
  ((∀ b, encodeSetupAw (decodeSetupAw b) = b) ∧ ∀ v, decodeSetupAw (encodeSetupAw v) = v) ∧
  ((∀ b, encodeStatus (decodeStatus b) = b) ∧ ∀ v, decodeStatus (encodeStatus v) = v) ∧
  ((∀ b, encodeFifoStatus (decodeFifoStatus b) = b) ∧ ∀ v, decodeFifoStatus (encodeFifoStatus v) = v)

/-- R162 to R169: each field of the six views at its bit position, and the pipe RX_P_NO names. -/
def Obligations.RegisterLayouts : Prop :=
  ∀ b : Byte,
    decodeConfig b = ⟨.ofBool (b.getLsbD 7), .ofBool (b.getLsbD 6), .ofBool (b.getLsbD 5), .ofBool (b.getLsbD 4),
      .ofBool (b.getLsbD 3), .ofBool (b.getLsbD 2), .ofBool (b.getLsbD 1), .ofBool (b.getLsbD 0)⟩ ∧
    (decodeEnAa b).rsv.toNat = b.toNat / 64 ∧ (decodeEnAa b).pipes.toNat = b.toNat % 64 ∧
    (decodeEnRxAddr b).rsv.toNat = b.toNat / 64 ∧ (decodeEnRxAddr b).pipes.toNat = b.toNat % 64 ∧
    (decodeSetupAw b).rsv.toNat = b.toNat / 4 ∧ (decodeSetupAw b).aw.toNat = b.toNat % 4 ∧
    decodeStatus b = ⟨.ofBool (b.getLsbD 7), .ofBool (b.getLsbD 6), .ofBool (b.getLsbD 5), .ofBool (b.getLsbD 4),
      BitVec.ofNat 3 (b.toNat / 2 % 8), .ofBool (b.getLsbD 0)⟩ ∧
    decodeFifoStatus b = ⟨.ofBool (b.getLsbD 7), .ofBool (b.getLsbD 6), .ofBool (b.getLsbD 5), .ofBool (b.getLsbD 4),
      BitVec.ofNat 2 (b.toNat / 4 % 4), .ofBool (b.getLsbD 1), .ofBool (b.getLsbD 0)⟩ ∧
    rxPipe (decodeStatus b) =
      if b.toNat / 2 % 8 ≤ 5 then .pipe (BitVec.ofNat 3 (b.toNat / 2 % 8)) else if b.toNat / 2 % 8 = 6 then .unused else .rxEmpty

/-- The power-on update of CONFIG is the mask form of R161: the five named bits assigned, the others kept. -/
def Obligations.PowerOnUpdateIsMasked : Prop :=
  ∀ (mask : BitVec 3) (b : Byte),
    powerOnConfig mask b = (b &&& ~~~0x73#8) ||| (0x03#8 ||| (mask.zeroExtend 8 <<< 4))

/-- R167: the width codes, and the width read back from SETUP_AW (R42). -/
def Obligations.WidthCodes : Prop :=
  awCode 3 = 0b01 ∧ awCode 4 = 0b10 ∧ awCode 5 = 0b11 ∧ widthOf 0b00 = none ∧
  (∀ w : Byte, w = 3 ∨ w = 4 ∨ w = 5 → widthOf (awCode w) = some w ∧
    ∀ c : Cache, addressWidth { c with setupAw := encodeSetupAw { rsv := 0, aw := awCode w } } = w)

/-- R293. -/
def Obligations.DeadlineAddSaturates : Prop :=
  ∀ a b : U64, (satAdd64 a b).toNat = min (a.toNat + b.toNat) (2 ^ 64 - 1)

/-- R126 and R18: the transceiver sends the frame and then the parameter FILL_BYTE, and stores what it receives below `rxLen`;
when the block has begun a frame, that is the frame clocked out. -/
def Obligations.ExchangeOfAFrame : Prop :=
  ∀ (s t : State) (f : Frame) (received : List Byte) (j : Nat), received.length = exchangeLength f →
    exchangeLength f = max f.tx.length f.rxLen ∧
    (exchangeOut s.params f).length = exchangeLength f ∧
    (j < exchangeLength f →
      (exchangeOut s.params f)[j]? = if j < f.tx.length then f.tx[j]? else some s.params.fillByte) ∧
    (exchangeStored f received)[j]? = (if j < f.rxLen then received[j]? else none) ∧
    (Begun f s t → clockedOut t = exchangeOut s.params f)

/-- R128: a completion of `m` bytes is parsed into the byte at index 0, if there is one, and the bytes at the indices 1 to
`m - 1`; no byte at an index from `m` on is read. -/
def Obligations.ResponseParse : Prop :=
  ∀ (buf : Six Byte) (m : Nat), m ≤ Config.bufCap →
    (m = 0 → parseResponse buf m = { status := none, data := [] }) ∧
    (1 ≤ m → (parseResponse buf m).status = some buf.c0 ∧ (parseResponse buf m).data.length = m - 1 ∧
      ∀ k, k < m - 1 → (parseResponse buf m).data[k]? = (bufferBytes buf)[1 + k]?)

/-! ## CONFIGURE -/

/-- R203 to R209: with no frame outstanding, a width of LEGAL_AW that SETUP_AW can code (R167) and agreeing pipes,
CONFIGURE returns OK and leaves exactly the built cache, the pipe records and `configured` in an otherwise zero bundle; nothing outside the bundle changes. -/
def Obligations.ConfigureBuildsTheCache : Prop :=
  ∀ (aw : Byte) (pipes : Six PipeRecord) (s : State), s.busy = false → aw ∈ s.params.legalAw →
    aw = 3 ∨ aw = 4 ∨ aw = 5 → PipesAgree s.params aw pipes →
    ∃ c, BuiltCache s.params aw pipes c ∧
      exec (.configure aw pipes) s =
        .next { s with toBundle := { zeroBundle with cache := c, pipe := pipes, configured := true }, result := some .ok }

/-- R202 and R213: a width outside LEGAL_AW is refused before any pipe is looked at, and the bundle is zero. -/
def Obligations.ConfigureRefusesWidth : Prop :=
  ∀ (aw : Byte) (pipes : Six PipeRecord) (s : State), s.busy = false → aw ∉ s.params.legalAw →
    exec (.configure aw pipes) s = .next { s with toBundle := zeroBundle, result := some .invalidAddressWidth }

/-- R204 and R213: an enabled pipe 2 to 5 that differs from the reference is refused, and the bundle is zero. -/
def Obligations.ConfigureRefusesPipes : Prop :=
  ∀ (aw : Byte) (pipes : Six PipeRecord) (s : State), s.busy = false → aw ∈ s.params.legalAw →
    ¬ PipesAgree s.params aw pipes →
    exec (.configure aw pipes) s = .next { s with toBundle := zeroBundle, result := some .invalidP2P5Address }

/-- R214: while a frame is outstanding CONFIGURE records PV_CONFIGURE_BUSY and changes nothing else. -/
def Obligations.ConfigureRefusedWhileBusy : Prop :=
  ∀ (aw : Byte) (pipes : Six PipeRecord) (s : State), s.busy = true →
    Violates .pvConfigureBusy s (exec (.configure aw pipes) s)

/-- R212: a second CONFIGURE with the same valid input leaves a bit-identical bundle. -/
def Obligations.ConfigureIsIdempotent : Prop :=
  ∀ (aw : Byte) (pipes : Six PipeRecord) (s t : State), s.busy = false → exec (.configure aw pipes) s = .next t →
    t.result = some .ok →
    ∃ u, exec (.configure aw pipes) t = .next u ∧ u.result = some .ok ∧ u.toBundle = t.toBundle

/-! ## The transaction engine -/

/-- R246: BEGIN_WRITE and W_REGISTER send `[OP_WRITE | addr, bytes]` with `rxLen = 0` and return OK. W_REGISTER as an
instruction is the model's choice (log entry 5). -/
def Obligations.WriteSendsItsFrame : Prop :=
  ∀ (addr : Byte) (reg : BitVec 5) (bytes : List Byte) (s : State), s.params.exposeEngine = true →
    s.configured = true → s.busy = false → bytes.length ≤ 5 →
    (addr.toNat ≤ 0x1F → Sends ⟨(s.params.opWrite ||| addr) :: bytes, 0⟩ s (exec (.beginWrite addr bytes) s)) ∧
    Sends ⟨(s.params.opWrite ||| reg.zeroExtend 8) :: bytes, 0⟩ s (exec (.wRegister reg bytes) s)

/-- R247: BEGIN_READ and R_REGISTER send `[OP_READ | addr]` with `rxLen = 1 + n` and return OK. R_REGISTER as an
instruction is the model's choice (log entry 5). -/
def Obligations.ReadSendsItsFrame : Prop :=
  ∀ (addr : Byte) (reg : BitVec 5) (n : Byte) (s : State), s.params.exposeEngine = true →
    s.configured = true → s.busy = false → n.toNat ≤ 5 →
    (addr.toNat ≤ 0x1F → Sends ⟨[s.params.opRead ||| addr], 1 + n.toNat⟩ s (exec (.beginRead addr n) s)) ∧
    Sends ⟨[s.params.opRead ||| reg.zeroExtend 8], 1 + n.toNat⟩ s (exec (.rRegister reg n) s)

/-- R248: BEGIN_COMMAND with a flush byte, FLUSH_TX and FLUSH_RX send that one byte and return OK. FLUSH_TX and
FLUSH_RX as instructions are the model's choice (log entry 5). -/
def Obligations.FlushSendsItsByte : Prop :=
  ∀ (cmd : Byte) (s : State), s.params.exposeEngine = true → s.configured = true → s.busy = false →
    (cmd = 0xE1 ∨ cmd = 0xE2 → Sends ⟨[cmd], 0⟩ s (exec (.beginCommand cmd) s)) ∧
    Sends ⟨[0xE1], 0⟩ s (exec .flushTx s) ∧ Sends ⟨[0xE2], 0⟩ s (exec .flushRx s)

/-- R242: with its operands in range, an engine operation while a frame is outstanding records PV_OVERLAP, raises
ProtocolViolation and changes nothing else. For the three begin operations this is R242's; that the four command frames as
instructions do the same is the model's choice (log entry 5). -/
def Obligations.OverlapIsRefused : Prop :=
  ∀ (i : Instr) (s : State), isEngineOperation i = true → operandsInRange i = true → s.params.exposeEngine = true →
    s.configured = true → s.busy = true → Violates .pvOverlap s (exec i s)

/-- R243, R245 and R248 with R244's order: an operand out of range raises ArgumentError and changes nothing, also while
a frame is outstanding. For the three begin operations this is the rules'; that a length out of range does the same to
R_REGISTER and W_REGISTER as instructions is the model's choice (log entry 5). -/
def Obligations.OperandsOutOfRangeAreRefused : Prop :=
  ∀ (i : Instr) (s : State), isEngineOperation i = true → operandsInRange i = false → RaisesOnly .argumentError s (exec i s)

/-- R347: the six reserved operations raise ArgumentError in every state and change nothing; so does a begin
operation when the engine is not exposed, and a DRIVE when there is no sequencer. That the four command frames as
instructions are refused like the begin operations when the engine is not exposed is the model's choice (log entry 5). -/
def Obligations.ReservedAndDisabledOperationsAreRefused : Prop :=
  ∀ (i : Instr) (s : State),
    RaisesOnly .argumentError s (exec .reservedHop7 s) ∧ RaisesOnly .argumentError s (exec .reservedHopB s) ∧
    RaisesOnly .argumentError s (exec .reservedHopC s) ∧ RaisesOnly .argumentError s (exec .reservedHopD s) ∧
    RaisesOnly .argumentError s (exec .reservedHopE s) ∧ RaisesOnly .argumentError s (exec .reservedHopF s) ∧
    (isEngineOperation i = true → s.params.exposeEngine = false → RaisesOnly .argumentError s (exec i s)) ∧
    (s.params.includeSequencer = false → RaisesOnly .argumentError s (exec .drive s))

/-- R402 (a) and R31: every operation but CONFIGURE raises ArgumentError while unconfigured, and changes nothing. (A DRIVE
in progress when a CONFIGURE fails at its yield point is no new operation: log entry 3. R402 speaks of host operations;
that the four command frames as instructions are guarded like them is the model's choice: log entry 5.) -/
def Obligations.UnconfiguredOperationsAreRefused : Prop :=
  ∀ (i : Instr) (s : State), isConfigure i = false → s.configured = false → (i = .drive → s.driving = false) →
    RaisesOnly .argumentError s (exec i s)

/-- The host's begin operations do what the command frames do (R122, R246 to R248). The command frames as instructions are
the model's choice (log entry 5). -/
def Obligations.BeginIsTheCommandFrame : Prop :=
  ∀ (reg : BitVec 5) (n : Byte) (bytes : List Byte) (s : State),
    exec (.beginRead (reg.zeroExtend 8) n) s = exec (.rRegister reg n) s ∧
    exec (.beginWrite (reg.zeroExtend 8) bytes) s = exec (.wRegister reg bytes) s ∧
    exec (.beginCommand 0xE1) s = exec .flushTx s ∧ exec (.beginCommand 0xE2) s = exec .flushRx s

/-- R241 with R420: while a frame is outstanding, no operation but NOTIFY_DONE changes `busy`, `ready`, `cs`, the frame in
the buffer or its lengths, or requests another frame. -/
def Obligations.OutstandingFrameIsStable : Prop :=
  ∀ (i : Instr) (s t : State), s.busy = true → isNotifyDone i = false → exec i s = .next t →
    t.busy = true ∧ t.ready = s.ready ∧ t.cs = s.cs ∧ t.txBuf = s.txBuf ∧ t.txLen = s.txLen ∧ t.rxLen = s.rxLen ∧
    requestCount t.port = requestCount s.port

/-! ## DRIVE -/

/-- R290 with R291 and R293: H_PowerOff parks without a request; with one and no frame outstanding it consumes it, sets
the deadline, updates CONFIG, sends it and enters ModuleStartup; nothing else changes. -/
def Obligations.PowerOffHandler : Prop :=
  ∀ s : State, DriveReady s → s.state = stateCode .powerOff →
    (s.powerOnReq = false → exec .drive s = .next { s with result := some .ok }) ∧
    (s.powerOnReq = true → s.busy = true → Violates .pvOverlap s (exec .drive s)) ∧
    (s.powerOnReq = true → s.busy = false → ∀ (c : Byte) (d : U64),
      c = (s.cache.config &&& ~~~0x73#8) ||| (0x03#8 ||| (s.params.powerOnIrqMask.zeroExtend 8 <<< 4)) →
      d.toNat = min (s.now.toNat + s.params.startupSettleMs.toNat) (2 ^ 64 - 1) →
      ∃ t, Begun ⟨[s.params.opWrite ||| 0x00, c], 0⟩
          { s with powerOnReq := false, deadline := d, cache := { s.cache with config := c } } t ∧
        exec .drive s = .next { t with state := stateCode .moduleStartup, result := some .ok })

/-- R292: ModuleStartup moves to Configure when the frame has completed and the deadline has come, else it parks. -/
def Obligations.ModuleStartupHandler : Prop :=
  ∀ s : State, DriveReady s → s.state = stateCode .moduleStartup →
    (s.ready = true → s.deadline.toNat ≤ s.now.toNat →
      exec .drive s = .next { s with cfgStep := 0, state := stateCode .configure, result := some .ok }) ∧
    (s.ready = false ∨ s.now.toNat < s.deadline.toNat → exec .drive s = .next { s with result := some .ok })

/-- R295 and R297: each pass of H_Configure, of a new DRIVE or of one at a yield point, returns OK while `ready = 0`, sends
the frame of `cfgStep` and yields, or after the last frame enters Sleep and returns OK. The yield point is the model's field
`driving` with no result returned (log entry 2). -/
def Obligations.ConfigureHandler : Prop :=
  ∀ s : State, s.configured = true → s.params.includeSequencer = true → s.state = stateCode .configure →
    (s.ready = false → exec .drive s = .next { s with driving := false, result := some .ok }) ∧
    (s.ready = true → s.cfgStep = 11 →
      exec .drive s = .next { s with cfgStep := 0, state := stateCode .sleep, driving := false, result := some .ok }) ∧
    (s.ready = true → s.busy = false → ∀ (k : Nat) (f : Frame), s.cfgStep.val = k →
      (configureSequence s.params s.cache)[k]? = some f →
      ∃ t, Begun f s t ∧ exec .drive s = .next { t with cfgStep := s.cfgStep + 1, driving := true, result := none })

/-- R298: in a state of the engine's invariant, no pass of H_Configure returns an error. -/
def Obligations.ConfigureHandlerNeverFails : Prop :=
  ∀ s t : State, EngineInv s → s.configured = true → s.params.includeSequencer = true → s.state = stateCode .configure →
    exec .drive s = .next t → (t.result = none ∨ t.result = some .ok) ∧ t.faults = s.faults

/-- R300 and R301: Sleep consumes a wake request, raises chip-enable and enters Idle; Idle consumes a pending interrupt and
enters ExternalInterrupt; without their flag both park. -/
def Obligations.SleepAndIdleHandlers : Prop :=
  ∀ s : State, DriveReady s →
    (s.state = stateCode .sleep → s.wakeReq = true →
      exec .drive s = .next { s with wakeReq := false, ce := true, port := .setCE true :: s.port, state := stateCode .idle,
                                     result := some .ok }) ∧
    (s.state = stateCode .sleep → s.wakeReq = false → exec .drive s = .next { s with result := some .ok }) ∧
    (s.state = stateCode .idle → s.irqPending = true →
      exec .drive s = .next { s with irqPending := false, state := stateCode .externalInterrupt, result := some .ok }) ∧
    (s.state = stateCode .idle → s.irqPending = false → exec .drive s = .next { s with result := some .ok })

/-- R305: ExternalInterrupt sends the read of FIFO_STATUS, two response bytes, and enters StatusReading; with a frame
outstanding it is refused whole. -/
def Obligations.ExternalInterruptHandler : Prop :=
  ∀ s : State, DriveReady s → s.state = stateCode .externalInterrupt →
    (s.busy = true → Violates .pvOverlap s (exec .drive s)) ∧
    (s.busy = false → ∃ t, Begun ⟨[s.params.opRead ||| 0x17], 2⟩ s t ∧
      exec .drive s = .next { t with state := stateCode .statusReading, result := some .ok })

/-- R306 with R308 to R310: StatusReading parks until the frame has completed, records a short response, or copies the two
bytes into the cache and enters the next state. -/
def Obligations.StatusReadingHandler : Prop :=
  ∀ s : State, DriveReady s → s.state = stateCode .statusReading →
    (s.ready = false → exec .drive s = .next { s with result := some .ok }) ∧
    (s.ready = true → s.rxCount < 2 → ∃ r : FaultRecord,
      (∀ g, hasFault r g = (hasFault s.faults g || g = .shortResponse)) ∧
      exec .drive s = .next { s with faults := r, result := some .ok }) ∧
    (s.ready = true → 2 ≤ s.rxCount →
      exec .drive s = .next { s with
        cache := { s.cache with status := s.rxBuf.c0, fifoStatus := s.rxBuf.c1 },
        state := stateCode (nextAfterStatus s.params.nextAfterStatus s.rxBuf.c0 s.rxBuf.c1), result := some .ok })

/-- R312 and R313: DRIVE in a reserved state, or in a code that names none, returns OK and changes nothing. -/
def Obligations.ReservedStatesAreNoOps : Prop :=
  ∀ s : State, DriveReady s → 7 ≤ s.state.toNat → exec .drive s = .next { s with result := some .ok }

/-- R315: DRIVE changes `state` only along the transition graph. -/
def Obligations.DriveFollowsTheTransitionGraph : Prop :=
  ∀ s t : State, exec .drive s = .next t → t.state ≠ s.state → Transition s t.state

/-- R19 and R310: `NEXT_AFTER_STATUS` is the first rule of its table that fits, and the constant Receive at its default. -/
def Obligations.NextAfterStatusReadsItsTable : Prop :=
  ∀ (r : StatusRule) (rules : List StatusRule) (other : LifecycleState) (status fifo : Byte),
    nextAfterStatus Config.defaultParams.nextAfterStatus status fifo = .receive ∧
    nextAfterStatus { rules := [], otherwise := other } status fifo = other ∧
    (status &&& r.statusMask = r.statusValue ∧ fifo &&& r.fifoMask = r.fifoValue →
      nextAfterStatus { rules := r :: rules, otherwise := other } status fifo = r.target) ∧
    (¬ (status &&& r.statusMask = r.statusValue ∧ fifo &&& r.fifoMask = r.fifoValue) →
      nextAfterStatus { rules := r :: rules, otherwise := other } status fifo =
        nextAfterStatus { rules := rules, otherwise := other } status fifo)

/-- R111: what DRIVE does is the same whatever the bytes of `rxBuf` at or above `rxCount` hold. -/
def Obligations.StaleReceiveBytesAreNotRead : Prop :=
  ∀ (s : State) (b : Six Byte), (bufferBytes b).take s.rxCount = (bufferBytes s.rxBuf).take s.rxCount →
    ∃ t, exec .drive s = .next t ∧ exec .drive { s with rxBuf := b } = .next { t with rxBuf := b }

/-! ## Requests and notifications -/

/-- R340 to R343: on a configured block each request sets its flag, returns OK and changes nothing else; on an unconfigured
block it raises ArgumentError and changes nothing. -/
def Obligations.RequestsSetTheirFlag : Prop :=
  ∀ s : State,
    (s.configured = true →
      exec .reqPowerOn s = .next { s with powerOnReq := true, result := some .ok } ∧
      exec .reqWake s = .next { s with wakeReq := true, result := some .ok } ∧
      exec .reqSleep s = .next { s with sleepReq := true, result := some .ok } ∧
      exec .notifyIrq s = .next { s with irqPending := true, result := some .ok }) ∧
    (s.configured = false →
      RaisesOnly .argumentError s (exec .reqPowerOn s) ∧ RaisesOnly .argumentError s (exec .reqWake s) ∧
      RaisesOnly .argumentError s (exec .reqSleep s) ∧ RaisesOnly .argumentError s (exec .notifyIrq s))

/-- R345: a completion of at most `rxLen` bytes of an outstanding frame stores its bytes at the front of `rxBuf`, records
the count, sets readiness, ends the frame and releases chip-select, all in one step; nothing else changes. The three
refusals, checked in this order: an unconfigured block, no frame outstanding, more than `rxLen` bytes. -/
def Obligations.CompletionEndsTheFrame : Prop :=
  ∀ (bytes : List Byte) (s : State),
    (s.configured = true → s.busy = true → bytes.length ≤ s.rxLen → s.rxLen ≤ Config.bufCap →
      ∃ buf : Six Byte, bufferBytes buf = bytes ++ (bufferBytes s.rxBuf).drop bytes.length ∧
        exec (.notifyDone bytes) s =
          .next { s with rxBuf := buf, rxCount := bytes.length, ready := true, busy := false, cs := false,
                         port := .setCS false :: s.port, result := some .ok }) ∧
    (s.configured = false → RaisesOnly .argumentError s (exec (.notifyDone bytes) s)) ∧
    (s.configured = true → s.busy = false → Violates .pvSpuriousDone s (exec (.notifyDone bytes) s)) ∧
    (s.configured = true → s.busy = true → s.rxLen < bytes.length → Violates .pvOverlength s (exec (.notifyDone bytes) s))

/-! ## Whole-machine rules -/

/-- R401 to R404 and R412: an operation that returns ArgumentError or ProtocolViolation has changed nothing but the fault
record (and, in the model, its result and the position of the DRIVE in progress); ArgumentError leaves the record too. -/
def Obligations.ErrorsArePrecise : Prop :=
  ∀ (i : Instr) (s t : State), exec i s = .next t →
    (t.result = some .protocolViolation →
      t = { s with faults := t.faults, driving := t.driving, result := some .protocolViolation }) ∧
    (t.result = some .argumentError → t = { s with result := some .argumentError })

/-- R401: InvalidAddressWidth and InvalidP2P5Address come from CONFIGURE alone, leave the bundle zero and record no fault. -/
def Obligations.ConfigErrorsClearTheSlate : Prop :=
  ∀ (i : Instr) (s t : State), exec i s = .next t →
    t.result = some .invalidAddressWidth ∨ t.result = some .invalidP2P5Address →
    isConfigure i = true ∧ t.toBundle = zeroBundle ∧ t.faults = s.faults

/-- R41: no instruction but CONFIGURE and DRIVE writes the cache; DRIVE writes CONFIG only in PowerOff, STATUS and
FIFO_STATUS only in StatusReading, and no other entry. -/
def Obligations.CacheWriters : Prop :=
  ∀ (i : Instr) (s t : State), exec i s = .next t → isConfigure i = false →
    t.cache = { s.cache with config := t.cache.config, status := t.cache.status, fifoStatus := t.cache.fifoStatus } ∧
    (t.cache.config ≠ s.cache.config → i = .drive ∧ s.state = stateCode .powerOff) ∧
    (t.cache.status ≠ s.cache.status ∨ t.cache.fifoStatus ≠ s.cache.fifoStatus →
      i = .drive ∧ s.state = stateCode .statusReading)

/-- R44: no operation other than CONFIGURE writes a pipe record. -/
def Obligations.PipeRecordsAreReadOnly : Prop :=
  ∀ (i : Instr) (s t : State), exec i s = .next t → isConfigure i = false → t.pipe = s.pipe

/-- R314: a request flag that was set is cleared by DRIVE in the state that consumes it and by CONFIGURE, which clears all
four, and by no other operation; `sleepReq` by CONFIGURE alone. -/
def Obligations.RequestFlagConsumers : Prop :=
  ∀ (i : Instr) (s t : State), exec i s = .next t →
    (isConfigure i = true → s.busy = false →
      t.powerOnReq = false ∧ t.wakeReq = false ∧ t.sleepReq = false ∧ t.irqPending = false) ∧
    (isConfigure i = false →
      (s.powerOnReq = true → t.powerOnReq = false → i = .drive ∧ s.state = stateCode .powerOff) ∧
      (s.wakeReq = true → t.wakeReq = false → i = .drive ∧ s.state = stateCode .sleep) ∧
      (s.irqPending = true → t.irqPending = false → i = .drive ∧ s.state = stateCode .idle) ∧
      (s.sleepReq = true → t.sleepReq = true))

/-- R44, R50 and the writers of R47: no operation but CONFIGURE and DRIVE writes `state`, `cfgStep` or `deadline`, and
DRIVE writes `deadline` only in PowerOff. -/
def Obligations.SequencerStateWriters : Prop :=
  ∀ (i : Instr) (s t : State), exec i s = .next t → isConfigure i = false →
    (i ≠ .drive → t.state = s.state ∧ t.cfgStep = s.cfgStep ∧ t.deadline = s.deadline) ∧
    (t.deadline ≠ s.deadline → s.state = stateCode .powerOff)

/-- R407 and R52: no instruction, CONFIGURE included, removes a fault reason. -/
def Obligations.FaultsAreNeverRemoved : Prop :=
  ∀ (i : Instr) (s t : State) (g : FaultReason), exec i s = .next t → hasFault s.faults g = true → hasFault t.faults g = true

/-- R403 with R407: a state with an empty fault record is only reached from one with an empty record, by an operation that
did not return ProtocolViolation. -/
def Obligations.CleanRunsHaveNoViolation : Prop :=
  ∀ (i : Instr) (s t : State), exec i s = .next t → Clean t → Clean s ∧ t.result ≠ some .protocolViolation

/-- R422 and R51: no instruction lowers chip-enable, and only DRIVE in Sleep raises it. -/
def Obligations.ChipEnableIsOnlyRaised : Prop :=
  ∀ (i : Instr) (s t : State), exec i s = .next t →
    (s.ce = true → t.ce = true) ∧ (s.ce = false → t.ce = true → i = .drive ∧ s.state = stateCode .sleep)

/-- No step changes the parameters, and time never goes back (R29, R424). -/
def Obligations.StepKeepsParametersAndTime : Prop :=
  ∀ s t : State, step s = .next t → t.params = s.params ∧ s.now.toNat ≤ t.now.toNat

/-- No step leaves the twelve lifecycle states (R47: no rule writes an out-of-range value). -/
def Obligations.StepKeepsStateInRange : Prop :=
  ∀ s t : State, step s = .next t → s.state.toNat ≤ 11 → t.state.toNat ≤ 11

/-- The engine's invariant (R251 with R45, R48) is kept by every step. -/
def Obligations.StepKeepsEngineInvariant : Prop :=
  ∀ s t : State, EngineInv s → step s = .next t → EngineInv t

/-- The cache's invariant (R31, R33 to R36, R39, R54) is kept by every step. -/
def Obligations.StepKeepsCacheInvariant : Prop :=
  ∀ s t : State, CacheInv s → step s = .next t → CacheInv t

/-- R317: from PowerOff on a configured block, with the power-on request, every completion at the first yield point after
its begin, and the time at the deadline by the second DRIVE, three DRIVEs reach Sleep. The frames sent are the power-on
write and the eleven of the configure sequence, in that order; all schedules of that form, over all caches and parameters. -/
def Obligations.ThreeDrivesReachSleep : Prop :=
  ∀ (s : State) (ms : U64), DriveReady s → s.busy = false → s.state = stateCode .powerOff →
    s.agenda = [.call (encode .reqPowerOn), .call (encode .drive), .call (encode (.notifyDone [])), .time ms,
        .call (encode .drive), .call (encode .drive)] ++
      (List.replicate 11 [Event.atYield (encode (.notifyDone [])), Event.atYield (encode .drive)]).flatten →
    s.now.toNat ≤ ms.toNat → min (s.now.toNat + s.params.startupSettleMs.toNat) (2 ^ 64 - 1) ≤ ms.toNat →
    ∃ t : State, Sys2Proof.core.run 28 s = .next t ∧ t.state = stateCode .sleep ∧ t.driving = false ∧ t.busy = false ∧
      t.result = some .ok ∧ t.faults = s.faults ∧ t.agenda = [] ∧
      framesOf t.port = (configureSequence s.params s.cache).reverse ++
        ⟨[s.params.opWrite ||| 0x00,
          (s.cache.config &&& ~~~0x73#8) ||| (0x03#8 ||| (s.params.powerOnIrqMask.zeroExtend 8 <<< 4))], 0⟩ ::
        framesOf s.port

/-- The parameters of the state after reset are the defaults of R11, R13 and R15 to R21; that they stand in the state is the
model's choice (log entry 7), and so is the table form of NEXT_AFTER_STATUS (log entry 8). -/
def Obligations.ResetHoldsTheDefaultParameters : Prop :=
  ∀ p : Params, p = State.reset.params →
  (∀ aw : Byte, aw ∈ p.legalAw ↔ aw = 3 ∨ aw = 4 ∨ aw = 5) ∧ p.opRead = 0x00 ∧ p.opWrite = 0x20 ∧
  p.startupSettleMs.toNat = 100 ∧ p.powerOnIrqMask = 0b011 ∧ p.enAaRequiresEnable = true ∧ p.p2p5Reference = .cache ∧
  p.fillByte = 0xFF ∧ (∀ status fifo : Byte, nextAfterStatus p.nextAfterStatus status fifo = .receive) ∧
  p.exposeEngine = false ∧ p.includeSequencer = true ∧ LegalParams p
end

