-- ==== Sys2Proof/Laws/Decode.lean ====
section
/-! SUPPORT. Small lemmas of the decoder and the encoder: one per part of an encoding. -/

namespace Sys2Proof

theorem decodeCmd_read (addr : BitVec 5) : decodeCmd (registerCommand 0x00 addr) = .rRegister addr := by
  revert addr; decide

theorem decodeCmd_write (addr : BitVec 5) : decodeCmd (registerCommand 0x20 addr) = .wRegister addr := by
  revert addr; decide

/-- With `OP_READ` at its default, the frame of a read is read back. -/
theorem decodeFrame_readFrame {p : Params} (hp : p.opRead = 0x00) (addr : BitVec 5) {n : Nat} (h : n ≤ 5) :
    decodeFrame (readFrame p addr n) = .ok (.rRegister addr (BitVec.ofNat 8 n)) := by
  have hd : decodeCmd (registerCommand p.opRead addr) = .rRegister addr := by rw [hp, decodeCmd_read]
  simp [decodeFrame, readFrame, hd, Config.bufCap, Config.maxAw]
  omega

/-- With `OP_WRITE` at its default, the frame of a write is read back. -/
theorem decodeFrame_writeFrame {p : Params} (hp : p.opWrite = 0x20) (addr : BitVec 5) {bytes : List Byte}
    (h : bytes.length ≤ 5) : decodeFrame (writeFrame p addr bytes) = .ok (.wRegister addr bytes) := by
  have hd : decodeCmd (registerCommand p.opWrite addr) = .wRegister addr := by rw [hp, decodeCmd_write]
  simp [decodeFrame, writeFrame, hd, Config.maxAw, h]

@[simp] theorem parseFlag_flagByte (b : Bool) : parseFlag (flagByte b) = .ok b := by cases b <;> rfl

/-- The four bytes of a handle, joined again. -/
theorem handle_join (h : Handle) :
    h.extractLsb' 24 8 ++ h.extractLsb' 16 8 ++ h.extractLsb' 8 8 ++ h.extractLsb' 0 8 = h := by
  rw [BitVec.extractLsb'_append_extractLsb'_eq_extractLsb' (by decide),
    BitVec.extractLsb'_append_extractLsb'_eq_extractLsb' (by decide),
    BitVec.extractLsb'_append_extractLsb'_eq_extractLsb' (by decide)]
  exact BitVec.extractLsb'_eq_self

/-- A pipe record is read back from its bytes, whatever follows. -/
theorem parsePipe_encodePipe (p : PipeRecord) (rest : List Byte) : parsePipe (encodePipe p ++ rest) = .ok (p, rest) := by
  simp [parsePipe, encodePipe, handle_join]

/-- A counted list is read back, if its length is a `u8`. -/
theorem parseCounted_encodeCounted {bytes : List Byte} (h : bytes.length < 256) :
    parseCounted (encodeCounted bytes) = .ok bytes := by
  simp [parseCounted, encodeCounted, Nat.mod_eq_of_lt h]

end Sys2Proof
end

