-- ==== Sys2Proof/Laws/State.lean ====
section
/-! SUPPORT. One lemma per field per update of the state: what each named update writes, and that it keeps the rest. -/

namespace Sys2Proof.Machine

variable (s : State)

/-! ## `returnCode` -/

@[simp] theorem returnCode_configured (c : ResultCode) : (returnCode c s).configured = s.configured := rfl
@[simp] theorem returnCode_cache (c : ResultCode) : (returnCode c s).cache = s.cache := rfl
@[simp] theorem returnCode_pipe (c : ResultCode) : (returnCode c s).pipe = s.pipe := rfl
@[simp] theorem returnCode_txBuf (c : ResultCode) : (returnCode c s).txBuf = s.txBuf := rfl
@[simp] theorem returnCode_txLen (c : ResultCode) : (returnCode c s).txLen = s.txLen := rfl
@[simp] theorem returnCode_rxBuf (c : ResultCode) : (returnCode c s).rxBuf = s.rxBuf := rfl
@[simp] theorem returnCode_rxLen (c : ResultCode) : (returnCode c s).rxLen = s.rxLen := rfl
@[simp] theorem returnCode_rxCount (c : ResultCode) : (returnCode c s).rxCount = s.rxCount := rfl
@[simp] theorem returnCode_ready (c : ResultCode) : (returnCode c s).ready = s.ready := rfl
@[simp] theorem returnCode_busy (c : ResultCode) : (returnCode c s).busy = s.busy := rfl
@[simp] theorem returnCode_state (c : ResultCode) : (returnCode c s).state = s.state := rfl
@[simp] theorem returnCode_cfgStep (c : ResultCode) : (returnCode c s).cfgStep = s.cfgStep := rfl
@[simp] theorem returnCode_powerOnReq (c : ResultCode) : (returnCode c s).powerOnReq = s.powerOnReq := rfl
@[simp] theorem returnCode_wakeReq (c : ResultCode) : (returnCode c s).wakeReq = s.wakeReq := rfl
@[simp] theorem returnCode_sleepReq (c : ResultCode) : (returnCode c s).sleepReq = s.sleepReq := rfl
@[simp] theorem returnCode_irqPending (c : ResultCode) : (returnCode c s).irqPending = s.irqPending := rfl
@[simp] theorem returnCode_deadline (c : ResultCode) : (returnCode c s).deadline = s.deadline := rfl
@[simp] theorem returnCode_cs (c : ResultCode) : (returnCode c s).cs = s.cs := rfl
@[simp] theorem returnCode_ce (c : ResultCode) : (returnCode c s).ce = s.ce := rfl
@[simp] theorem returnCode_faults (c : ResultCode) : (returnCode c s).faults = s.faults := rfl
@[simp] theorem returnCode_params (c : ResultCode) : (returnCode c s).params = s.params := rfl
@[simp] theorem returnCode_now (c : ResultCode) : (returnCode c s).now = s.now := rfl
@[simp] theorem returnCode_driving (c : ResultCode) : (returnCode c s).driving = s.driving := rfl
@[simp] theorem returnCode_result (c : ResultCode) : (returnCode c s).result = some c := rfl
@[simp] theorem returnCode_port (c : ResultCode) : (returnCode c s).port = s.port := rfl
@[simp] theorem returnCode_agenda (c : ResultCode) : (returnCode c s).agenda = s.agenda := rfl

/-! ## `raise` -/

@[simp] theorem raise_configured (e : ResultCode) (w : Option FaultReason) : (raise e w s).configured = s.configured := rfl
@[simp] theorem raise_cache (e : ResultCode) (w : Option FaultReason) : (raise e w s).cache = s.cache := rfl
@[simp] theorem raise_pipe (e : ResultCode) (w : Option FaultReason) : (raise e w s).pipe = s.pipe := rfl
@[simp] theorem raise_txBuf (e : ResultCode) (w : Option FaultReason) : (raise e w s).txBuf = s.txBuf := rfl
@[simp] theorem raise_txLen (e : ResultCode) (w : Option FaultReason) : (raise e w s).txLen = s.txLen := rfl
@[simp] theorem raise_rxBuf (e : ResultCode) (w : Option FaultReason) : (raise e w s).rxBuf = s.rxBuf := rfl
@[simp] theorem raise_rxLen (e : ResultCode) (w : Option FaultReason) : (raise e w s).rxLen = s.rxLen := rfl
@[simp] theorem raise_rxCount (e : ResultCode) (w : Option FaultReason) : (raise e w s).rxCount = s.rxCount := rfl
@[simp] theorem raise_ready (e : ResultCode) (w : Option FaultReason) : (raise e w s).ready = s.ready := rfl
@[simp] theorem raise_busy (e : ResultCode) (w : Option FaultReason) : (raise e w s).busy = s.busy := rfl
@[simp] theorem raise_state (e : ResultCode) (w : Option FaultReason) : (raise e w s).state = s.state := rfl
@[simp] theorem raise_cfgStep (e : ResultCode) (w : Option FaultReason) : (raise e w s).cfgStep = s.cfgStep := rfl
@[simp] theorem raise_powerOnReq (e : ResultCode) (w : Option FaultReason) : (raise e w s).powerOnReq = s.powerOnReq := rfl
@[simp] theorem raise_wakeReq (e : ResultCode) (w : Option FaultReason) : (raise e w s).wakeReq = s.wakeReq := rfl
@[simp] theorem raise_sleepReq (e : ResultCode) (w : Option FaultReason) : (raise e w s).sleepReq = s.sleepReq := rfl
@[simp] theorem raise_irqPending (e : ResultCode) (w : Option FaultReason) : (raise e w s).irqPending = s.irqPending := rfl
@[simp] theorem raise_deadline (e : ResultCode) (w : Option FaultReason) : (raise e w s).deadline = s.deadline := rfl
@[simp] theorem raise_cs (e : ResultCode) (w : Option FaultReason) : (raise e w s).cs = s.cs := rfl
@[simp] theorem raise_ce (e : ResultCode) (w : Option FaultReason) : (raise e w s).ce = s.ce := rfl
@[simp] theorem raise_faults (e : ResultCode) (w : Option FaultReason) : (raise e w s).faults = recordFault w s.faults := rfl
@[simp] theorem raise_params (e : ResultCode) (w : Option FaultReason) : (raise e w s).params = s.params := rfl
@[simp] theorem raise_now (e : ResultCode) (w : Option FaultReason) : (raise e w s).now = s.now := rfl
@[simp] theorem raise_driving (e : ResultCode) (w : Option FaultReason) : (raise e w s).driving = s.driving := rfl
@[simp] theorem raise_result (e : ResultCode) (w : Option FaultReason) : (raise e w s).result = some e := rfl
@[simp] theorem raise_port (e : ResultCode) (w : Option FaultReason) : (raise e w s).port = s.port := rfl
@[simp] theorem raise_agenda (e : ResultCode) (w : Option FaultReason) : (raise e w s).agenda = s.agenda := rfl

/-! ## `setCS` -/

@[simp] theorem setCS_configured (b : Bool) : (setCS b s).configured = s.configured := rfl
@[simp] theorem setCS_cache (b : Bool) : (setCS b s).cache = s.cache := rfl
@[simp] theorem setCS_pipe (b : Bool) : (setCS b s).pipe = s.pipe := rfl
@[simp] theorem setCS_txBuf (b : Bool) : (setCS b s).txBuf = s.txBuf := rfl
@[simp] theorem setCS_txLen (b : Bool) : (setCS b s).txLen = s.txLen := rfl
@[simp] theorem setCS_rxBuf (b : Bool) : (setCS b s).rxBuf = s.rxBuf := rfl
@[simp] theorem setCS_rxLen (b : Bool) : (setCS b s).rxLen = s.rxLen := rfl
@[simp] theorem setCS_rxCount (b : Bool) : (setCS b s).rxCount = s.rxCount := rfl
@[simp] theorem setCS_ready (b : Bool) : (setCS b s).ready = s.ready := rfl
@[simp] theorem setCS_busy (b : Bool) : (setCS b s).busy = s.busy := rfl
@[simp] theorem setCS_state (b : Bool) : (setCS b s).state = s.state := rfl
@[simp] theorem setCS_cfgStep (b : Bool) : (setCS b s).cfgStep = s.cfgStep := rfl
@[simp] theorem setCS_powerOnReq (b : Bool) : (setCS b s).powerOnReq = s.powerOnReq := rfl
@[simp] theorem setCS_wakeReq (b : Bool) : (setCS b s).wakeReq = s.wakeReq := rfl
@[simp] theorem setCS_sleepReq (b : Bool) : (setCS b s).sleepReq = s.sleepReq := rfl
@[simp] theorem setCS_irqPending (b : Bool) : (setCS b s).irqPending = s.irqPending := rfl
@[simp] theorem setCS_deadline (b : Bool) : (setCS b s).deadline = s.deadline := rfl
@[simp] theorem setCS_cs (b : Bool) : (setCS b s).cs = b := rfl
@[simp] theorem setCS_ce (b : Bool) : (setCS b s).ce = s.ce := rfl
@[simp] theorem setCS_faults (b : Bool) : (setCS b s).faults = s.faults := rfl
@[simp] theorem setCS_params (b : Bool) : (setCS b s).params = s.params := rfl
@[simp] theorem setCS_now (b : Bool) : (setCS b s).now = s.now := rfl
@[simp] theorem setCS_driving (b : Bool) : (setCS b s).driving = s.driving := rfl
@[simp] theorem setCS_result (b : Bool) : (setCS b s).result = s.result := rfl
@[simp] theorem setCS_port (b : Bool) : (setCS b s).port = .setCS b :: s.port := rfl
@[simp] theorem setCS_agenda (b : Bool) : (setCS b s).agenda = s.agenda := rfl

/-! ## `setCE` -/

@[simp] theorem setCE_configured (b : Bool) : (setCE b s).configured = s.configured := rfl
@[simp] theorem setCE_cache (b : Bool) : (setCE b s).cache = s.cache := rfl
@[simp] theorem setCE_pipe (b : Bool) : (setCE b s).pipe = s.pipe := rfl
@[simp] theorem setCE_txBuf (b : Bool) : (setCE b s).txBuf = s.txBuf := rfl
@[simp] theorem setCE_txLen (b : Bool) : (setCE b s).txLen = s.txLen := rfl
@[simp] theorem setCE_rxBuf (b : Bool) : (setCE b s).rxBuf = s.rxBuf := rfl
@[simp] theorem setCE_rxLen (b : Bool) : (setCE b s).rxLen = s.rxLen := rfl
@[simp] theorem setCE_rxCount (b : Bool) : (setCE b s).rxCount = s.rxCount := rfl
@[simp] theorem setCE_ready (b : Bool) : (setCE b s).ready = s.ready := rfl
@[simp] theorem setCE_busy (b : Bool) : (setCE b s).busy = s.busy := rfl
@[simp] theorem setCE_state (b : Bool) : (setCE b s).state = s.state := rfl
@[simp] theorem setCE_cfgStep (b : Bool) : (setCE b s).cfgStep = s.cfgStep := rfl
@[simp] theorem setCE_powerOnReq (b : Bool) : (setCE b s).powerOnReq = s.powerOnReq := rfl
@[simp] theorem setCE_wakeReq (b : Bool) : (setCE b s).wakeReq = s.wakeReq := rfl
@[simp] theorem setCE_sleepReq (b : Bool) : (setCE b s).sleepReq = s.sleepReq := rfl
@[simp] theorem setCE_irqPending (b : Bool) : (setCE b s).irqPending = s.irqPending := rfl
@[simp] theorem setCE_deadline (b : Bool) : (setCE b s).deadline = s.deadline := rfl
@[simp] theorem setCE_cs (b : Bool) : (setCE b s).cs = s.cs := rfl
@[simp] theorem setCE_ce (b : Bool) : (setCE b s).ce = b := rfl
@[simp] theorem setCE_faults (b : Bool) : (setCE b s).faults = s.faults := rfl
@[simp] theorem setCE_params (b : Bool) : (setCE b s).params = s.params := rfl
@[simp] theorem setCE_now (b : Bool) : (setCE b s).now = s.now := rfl
@[simp] theorem setCE_driving (b : Bool) : (setCE b s).driving = s.driving := rfl
@[simp] theorem setCE_result (b : Bool) : (setCE b s).result = s.result := rfl
@[simp] theorem setCE_port (b : Bool) : (setCE b s).port = .setCE b :: s.port := rfl
@[simp] theorem setCE_agenda (b : Bool) : (setCE b s).agenda = s.agenda := rfl

/-! ## `busRequest` -/

@[simp] theorem busRequest_configured (f : Frame) : (busRequest f s).configured = s.configured := rfl
@[simp] theorem busRequest_cache (f : Frame) : (busRequest f s).cache = s.cache := rfl
@[simp] theorem busRequest_pipe (f : Frame) : (busRequest f s).pipe = s.pipe := rfl
@[simp] theorem busRequest_txBuf (f : Frame) : (busRequest f s).txBuf = s.txBuf := rfl
@[simp] theorem busRequest_txLen (f : Frame) : (busRequest f s).txLen = s.txLen := rfl
@[simp] theorem busRequest_rxBuf (f : Frame) : (busRequest f s).rxBuf = s.rxBuf := rfl
@[simp] theorem busRequest_rxLen (f : Frame) : (busRequest f s).rxLen = s.rxLen := rfl
@[simp] theorem busRequest_rxCount (f : Frame) : (busRequest f s).rxCount = s.rxCount := rfl
@[simp] theorem busRequest_ready (f : Frame) : (busRequest f s).ready = s.ready := rfl
@[simp] theorem busRequest_busy (f : Frame) : (busRequest f s).busy = s.busy := rfl
@[simp] theorem busRequest_state (f : Frame) : (busRequest f s).state = s.state := rfl
@[simp] theorem busRequest_cfgStep (f : Frame) : (busRequest f s).cfgStep = s.cfgStep := rfl
@[simp] theorem busRequest_powerOnReq (f : Frame) : (busRequest f s).powerOnReq = s.powerOnReq := rfl
@[simp] theorem busRequest_wakeReq (f : Frame) : (busRequest f s).wakeReq = s.wakeReq := rfl
@[simp] theorem busRequest_sleepReq (f : Frame) : (busRequest f s).sleepReq = s.sleepReq := rfl
@[simp] theorem busRequest_irqPending (f : Frame) : (busRequest f s).irqPending = s.irqPending := rfl
@[simp] theorem busRequest_deadline (f : Frame) : (busRequest f s).deadline = s.deadline := rfl
@[simp] theorem busRequest_cs (f : Frame) : (busRequest f s).cs = s.cs := rfl
@[simp] theorem busRequest_ce (f : Frame) : (busRequest f s).ce = s.ce := rfl
@[simp] theorem busRequest_faults (f : Frame) : (busRequest f s).faults = s.faults := rfl
@[simp] theorem busRequest_params (f : Frame) : (busRequest f s).params = s.params := rfl
@[simp] theorem busRequest_now (f : Frame) : (busRequest f s).now = s.now := rfl
@[simp] theorem busRequest_driving (f : Frame) : (busRequest f s).driving = s.driving := rfl
@[simp] theorem busRequest_result (f : Frame) : (busRequest f s).result = s.result := rfl
@[simp] theorem busRequest_port (f : Frame) : (busRequest f s).port = .busRequest f :: s.port := rfl
@[simp] theorem busRequest_agenda (f : Frame) : (busRequest f s).agenda = s.agenda := rfl

/-! ## `beginFrame` -/

@[simp] theorem beginFrame_configured (f : Frame) : (beginFrame f s).configured = s.configured := rfl
@[simp] theorem beginFrame_cache (f : Frame) : (beginFrame f s).cache = s.cache := rfl
@[simp] theorem beginFrame_pipe (f : Frame) : (beginFrame f s).pipe = s.pipe := rfl
@[simp] theorem beginFrame_txBuf (f : Frame) : (beginFrame f s).txBuf = overwrite s.txBuf f.tx := rfl
@[simp] theorem beginFrame_txLen (f : Frame) : (beginFrame f s).txLen = f.tx.length := rfl
@[simp] theorem beginFrame_rxBuf (f : Frame) : (beginFrame f s).rxBuf = s.rxBuf := rfl
@[simp] theorem beginFrame_rxLen (f : Frame) : (beginFrame f s).rxLen = f.rxLen := rfl
@[simp] theorem beginFrame_rxCount (f : Frame) : (beginFrame f s).rxCount = s.rxCount := rfl
@[simp] theorem beginFrame_ready (f : Frame) : (beginFrame f s).ready = false := rfl
@[simp] theorem beginFrame_busy (f : Frame) : (beginFrame f s).busy = true := rfl
@[simp] theorem beginFrame_state (f : Frame) : (beginFrame f s).state = s.state := rfl
@[simp] theorem beginFrame_cfgStep (f : Frame) : (beginFrame f s).cfgStep = s.cfgStep := rfl
@[simp] theorem beginFrame_powerOnReq (f : Frame) : (beginFrame f s).powerOnReq = s.powerOnReq := rfl
@[simp] theorem beginFrame_wakeReq (f : Frame) : (beginFrame f s).wakeReq = s.wakeReq := rfl
@[simp] theorem beginFrame_sleepReq (f : Frame) : (beginFrame f s).sleepReq = s.sleepReq := rfl
@[simp] theorem beginFrame_irqPending (f : Frame) : (beginFrame f s).irqPending = s.irqPending := rfl
@[simp] theorem beginFrame_deadline (f : Frame) : (beginFrame f s).deadline = s.deadline := rfl
@[simp] theorem beginFrame_cs (f : Frame) : (beginFrame f s).cs = true := rfl
@[simp] theorem beginFrame_ce (f : Frame) : (beginFrame f s).ce = s.ce := rfl
@[simp] theorem beginFrame_faults (f : Frame) : (beginFrame f s).faults = s.faults := rfl
@[simp] theorem beginFrame_params (f : Frame) : (beginFrame f s).params = s.params := rfl
@[simp] theorem beginFrame_now (f : Frame) : (beginFrame f s).now = s.now := rfl
@[simp] theorem beginFrame_driving (f : Frame) : (beginFrame f s).driving = s.driving := rfl
@[simp] theorem beginFrame_result (f : Frame) : (beginFrame f s).result = s.result := rfl
@[simp] theorem beginFrame_port (f : Frame) : (beginFrame f s).port = .busRequest f :: .setCS true :: s.port := rfl
@[simp] theorem beginFrame_agenda (f : Frame) : (beginFrame f s).agenda = s.agenda := rfl

/-! ## `completeFrame` -/

@[simp] theorem completeFrame_configured (b : List Byte) : (completeFrame b s).configured = s.configured := rfl
@[simp] theorem completeFrame_cache (b : List Byte) : (completeFrame b s).cache = s.cache := rfl
@[simp] theorem completeFrame_pipe (b : List Byte) : (completeFrame b s).pipe = s.pipe := rfl
@[simp] theorem completeFrame_txBuf (b : List Byte) : (completeFrame b s).txBuf = s.txBuf := rfl
@[simp] theorem completeFrame_txLen (b : List Byte) : (completeFrame b s).txLen = s.txLen := rfl
@[simp] theorem completeFrame_rxBuf (b : List Byte) : (completeFrame b s).rxBuf = overwrite s.rxBuf b := rfl
@[simp] theorem completeFrame_rxLen (b : List Byte) : (completeFrame b s).rxLen = s.rxLen := rfl
@[simp] theorem completeFrame_rxCount (b : List Byte) : (completeFrame b s).rxCount = b.length := rfl
@[simp] theorem completeFrame_ready (b : List Byte) : (completeFrame b s).ready = true := rfl
@[simp] theorem completeFrame_busy (b : List Byte) : (completeFrame b s).busy = false := rfl
@[simp] theorem completeFrame_state (b : List Byte) : (completeFrame b s).state = s.state := rfl
@[simp] theorem completeFrame_cfgStep (b : List Byte) : (completeFrame b s).cfgStep = s.cfgStep := rfl
@[simp] theorem completeFrame_powerOnReq (b : List Byte) : (completeFrame b s).powerOnReq = s.powerOnReq := rfl
@[simp] theorem completeFrame_wakeReq (b : List Byte) : (completeFrame b s).wakeReq = s.wakeReq := rfl
@[simp] theorem completeFrame_sleepReq (b : List Byte) : (completeFrame b s).sleepReq = s.sleepReq := rfl
@[simp] theorem completeFrame_irqPending (b : List Byte) : (completeFrame b s).irqPending = s.irqPending := rfl
@[simp] theorem completeFrame_deadline (b : List Byte) : (completeFrame b s).deadline = s.deadline := rfl
@[simp] theorem completeFrame_cs (b : List Byte) : (completeFrame b s).cs = false := rfl
@[simp] theorem completeFrame_ce (b : List Byte) : (completeFrame b s).ce = s.ce := rfl
@[simp] theorem completeFrame_faults (b : List Byte) : (completeFrame b s).faults = s.faults := rfl
@[simp] theorem completeFrame_params (b : List Byte) : (completeFrame b s).params = s.params := rfl
@[simp] theorem completeFrame_now (b : List Byte) : (completeFrame b s).now = s.now := rfl
@[simp] theorem completeFrame_driving (b : List Byte) : (completeFrame b s).driving = s.driving := rfl
@[simp] theorem completeFrame_result (b : List Byte) : (completeFrame b s).result = s.result := rfl
@[simp] theorem completeFrame_port (b : List Byte) : (completeFrame b s).port = .setCS false :: s.port := rfl
@[simp] theorem completeFrame_agenda (b : List Byte) : (completeFrame b s).agenda = s.agenda := rfl

/-! ## `enter` -/

@[simp] theorem enter_configured (x : LifecycleState) : (enter x s).configured = s.configured := rfl
@[simp] theorem enter_cache (x : LifecycleState) : (enter x s).cache = s.cache := rfl
@[simp] theorem enter_pipe (x : LifecycleState) : (enter x s).pipe = s.pipe := rfl
@[simp] theorem enter_txBuf (x : LifecycleState) : (enter x s).txBuf = s.txBuf := rfl
@[simp] theorem enter_txLen (x : LifecycleState) : (enter x s).txLen = s.txLen := rfl
@[simp] theorem enter_rxBuf (x : LifecycleState) : (enter x s).rxBuf = s.rxBuf := rfl
@[simp] theorem enter_rxLen (x : LifecycleState) : (enter x s).rxLen = s.rxLen := rfl
@[simp] theorem enter_rxCount (x : LifecycleState) : (enter x s).rxCount = s.rxCount := rfl
@[simp] theorem enter_ready (x : LifecycleState) : (enter x s).ready = s.ready := rfl
@[simp] theorem enter_busy (x : LifecycleState) : (enter x s).busy = s.busy := rfl
@[simp] theorem enter_state (x : LifecycleState) : (enter x s).state = stateCode x := rfl
@[simp] theorem enter_cfgStep (x : LifecycleState) : (enter x s).cfgStep = s.cfgStep := rfl
@[simp] theorem enter_powerOnReq (x : LifecycleState) : (enter x s).powerOnReq = s.powerOnReq := rfl
@[simp] theorem enter_wakeReq (x : LifecycleState) : (enter x s).wakeReq = s.wakeReq := rfl
@[simp] theorem enter_sleepReq (x : LifecycleState) : (enter x s).sleepReq = s.sleepReq := rfl
@[simp] theorem enter_irqPending (x : LifecycleState) : (enter x s).irqPending = s.irqPending := rfl
@[simp] theorem enter_deadline (x : LifecycleState) : (enter x s).deadline = s.deadline := rfl
@[simp] theorem enter_cs (x : LifecycleState) : (enter x s).cs = s.cs := rfl
@[simp] theorem enter_ce (x : LifecycleState) : (enter x s).ce = s.ce := rfl
@[simp] theorem enter_faults (x : LifecycleState) : (enter x s).faults = s.faults := rfl
@[simp] theorem enter_params (x : LifecycleState) : (enter x s).params = s.params := rfl
@[simp] theorem enter_now (x : LifecycleState) : (enter x s).now = s.now := rfl
@[simp] theorem enter_driving (x : LifecycleState) : (enter x s).driving = s.driving := rfl
@[simp] theorem enter_result (x : LifecycleState) : (enter x s).result = s.result := rfl
@[simp] theorem enter_port (x : LifecycleState) : (enter x s).port = s.port := rfl
@[simp] theorem enter_agenda (x : LifecycleState) : (enter x s).agenda = s.agenda := rfl

/-! ## `driveReturns` -/

@[simp] theorem driveReturns_configured (c : ResultCode) : (driveReturns c s).configured = s.configured := rfl
@[simp] theorem driveReturns_cache (c : ResultCode) : (driveReturns c s).cache = s.cache := rfl
@[simp] theorem driveReturns_pipe (c : ResultCode) : (driveReturns c s).pipe = s.pipe := rfl
@[simp] theorem driveReturns_txBuf (c : ResultCode) : (driveReturns c s).txBuf = s.txBuf := rfl
@[simp] theorem driveReturns_txLen (c : ResultCode) : (driveReturns c s).txLen = s.txLen := rfl
@[simp] theorem driveReturns_rxBuf (c : ResultCode) : (driveReturns c s).rxBuf = s.rxBuf := rfl
@[simp] theorem driveReturns_rxLen (c : ResultCode) : (driveReturns c s).rxLen = s.rxLen := rfl
@[simp] theorem driveReturns_rxCount (c : ResultCode) : (driveReturns c s).rxCount = s.rxCount := rfl
@[simp] theorem driveReturns_ready (c : ResultCode) : (driveReturns c s).ready = s.ready := rfl
@[simp] theorem driveReturns_busy (c : ResultCode) : (driveReturns c s).busy = s.busy := rfl
@[simp] theorem driveReturns_state (c : ResultCode) : (driveReturns c s).state = s.state := rfl
@[simp] theorem driveReturns_cfgStep (c : ResultCode) : (driveReturns c s).cfgStep = s.cfgStep := rfl
@[simp] theorem driveReturns_powerOnReq (c : ResultCode) : (driveReturns c s).powerOnReq = s.powerOnReq := rfl
@[simp] theorem driveReturns_wakeReq (c : ResultCode) : (driveReturns c s).wakeReq = s.wakeReq := rfl
@[simp] theorem driveReturns_sleepReq (c : ResultCode) : (driveReturns c s).sleepReq = s.sleepReq := rfl
@[simp] theorem driveReturns_irqPending (c : ResultCode) : (driveReturns c s).irqPending = s.irqPending := rfl
@[simp] theorem driveReturns_deadline (c : ResultCode) : (driveReturns c s).deadline = s.deadline := rfl
@[simp] theorem driveReturns_cs (c : ResultCode) : (driveReturns c s).cs = s.cs := rfl
@[simp] theorem driveReturns_ce (c : ResultCode) : (driveReturns c s).ce = s.ce := rfl
@[simp] theorem driveReturns_faults (c : ResultCode) : (driveReturns c s).faults = s.faults := rfl
@[simp] theorem driveReturns_params (c : ResultCode) : (driveReturns c s).params = s.params := rfl
@[simp] theorem driveReturns_now (c : ResultCode) : (driveReturns c s).now = s.now := rfl
@[simp] theorem driveReturns_driving (c : ResultCode) : (driveReturns c s).driving = false := rfl
@[simp] theorem driveReturns_result (c : ResultCode) : (driveReturns c s).result = some c := rfl
@[simp] theorem driveReturns_port (c : ResultCode) : (driveReturns c s).port = s.port := rfl
@[simp] theorem driveReturns_agenda (c : ResultCode) : (driveReturns c s).agenda = s.agenda := rfl

/-! ## `driveYields` -/

@[simp] theorem driveYields_configured : (driveYields s).configured = s.configured := rfl
@[simp] theorem driveYields_cache : (driveYields s).cache = s.cache := rfl
@[simp] theorem driveYields_pipe : (driveYields s).pipe = s.pipe := rfl
@[simp] theorem driveYields_txBuf : (driveYields s).txBuf = s.txBuf := rfl
@[simp] theorem driveYields_txLen : (driveYields s).txLen = s.txLen := rfl
@[simp] theorem driveYields_rxBuf : (driveYields s).rxBuf = s.rxBuf := rfl
@[simp] theorem driveYields_rxLen : (driveYields s).rxLen = s.rxLen := rfl
@[simp] theorem driveYields_rxCount : (driveYields s).rxCount = s.rxCount := rfl
@[simp] theorem driveYields_ready : (driveYields s).ready = s.ready := rfl
@[simp] theorem driveYields_busy : (driveYields s).busy = s.busy := rfl
@[simp] theorem driveYields_state : (driveYields s).state = s.state := rfl
@[simp] theorem driveYields_cfgStep : (driveYields s).cfgStep = s.cfgStep := rfl
@[simp] theorem driveYields_powerOnReq : (driveYields s).powerOnReq = s.powerOnReq := rfl
@[simp] theorem driveYields_wakeReq : (driveYields s).wakeReq = s.wakeReq := rfl
@[simp] theorem driveYields_sleepReq : (driveYields s).sleepReq = s.sleepReq := rfl
@[simp] theorem driveYields_irqPending : (driveYields s).irqPending = s.irqPending := rfl
@[simp] theorem driveYields_deadline : (driveYields s).deadline = s.deadline := rfl
@[simp] theorem driveYields_cs : (driveYields s).cs = s.cs := rfl
@[simp] theorem driveYields_ce : (driveYields s).ce = s.ce := rfl
@[simp] theorem driveYields_faults : (driveYields s).faults = s.faults := rfl
@[simp] theorem driveYields_params : (driveYields s).params = s.params := rfl
@[simp] theorem driveYields_now : (driveYields s).now = s.now := rfl
@[simp] theorem driveYields_driving : (driveYields s).driving = true := rfl
@[simp] theorem driveYields_result : (driveYields s).result = none := rfl
@[simp] theorem driveYields_port : (driveYields s).port = s.port := rfl
@[simp] theorem driveYields_agenda : (driveYields s).agenda = s.agenda := rfl

/-! ## `clearSlate` -/

@[simp] theorem clearSlate_configured : (clearSlate s).configured = zeroBundle.configured := rfl
@[simp] theorem clearSlate_cache : (clearSlate s).cache = zeroBundle.cache := rfl
@[simp] theorem clearSlate_pipe : (clearSlate s).pipe = zeroBundle.pipe := rfl
@[simp] theorem clearSlate_txBuf : (clearSlate s).txBuf = zeroBundle.txBuf := rfl
@[simp] theorem clearSlate_txLen : (clearSlate s).txLen = zeroBundle.txLen := rfl
@[simp] theorem clearSlate_rxBuf : (clearSlate s).rxBuf = zeroBundle.rxBuf := rfl
@[simp] theorem clearSlate_rxLen : (clearSlate s).rxLen = zeroBundle.rxLen := rfl
@[simp] theorem clearSlate_rxCount : (clearSlate s).rxCount = zeroBundle.rxCount := rfl
@[simp] theorem clearSlate_ready : (clearSlate s).ready = zeroBundle.ready := rfl
@[simp] theorem clearSlate_busy : (clearSlate s).busy = zeroBundle.busy := rfl
@[simp] theorem clearSlate_state : (clearSlate s).state = zeroBundle.state := rfl
@[simp] theorem clearSlate_cfgStep : (clearSlate s).cfgStep = zeroBundle.cfgStep := rfl
@[simp] theorem clearSlate_powerOnReq : (clearSlate s).powerOnReq = zeroBundle.powerOnReq := rfl
@[simp] theorem clearSlate_wakeReq : (clearSlate s).wakeReq = zeroBundle.wakeReq := rfl
@[simp] theorem clearSlate_sleepReq : (clearSlate s).sleepReq = zeroBundle.sleepReq := rfl
@[simp] theorem clearSlate_irqPending : (clearSlate s).irqPending = zeroBundle.irqPending := rfl
@[simp] theorem clearSlate_deadline : (clearSlate s).deadline = zeroBundle.deadline := rfl
@[simp] theorem clearSlate_cs : (clearSlate s).cs = s.cs := rfl
@[simp] theorem clearSlate_ce : (clearSlate s).ce = s.ce := rfl
@[simp] theorem clearSlate_faults : (clearSlate s).faults = s.faults := rfl
@[simp] theorem clearSlate_params : (clearSlate s).params = s.params := rfl
@[simp] theorem clearSlate_now : (clearSlate s).now = s.now := rfl
@[simp] theorem clearSlate_driving : (clearSlate s).driving = s.driving := rfl
@[simp] theorem clearSlate_result : (clearSlate s).result = s.result := rfl
@[simp] theorem clearSlate_port : (clearSlate s).port = s.port := rfl
@[simp] theorem clearSlate_agenda : (clearSlate s).agenda = s.agenda := rfl

/-! ## `setPowerOnReq` -/

@[simp] theorem setPowerOnReq_configured : (setPowerOnReq s).configured = s.configured := rfl
@[simp] theorem setPowerOnReq_cache : (setPowerOnReq s).cache = s.cache := rfl
@[simp] theorem setPowerOnReq_pipe : (setPowerOnReq s).pipe = s.pipe := rfl
@[simp] theorem setPowerOnReq_txBuf : (setPowerOnReq s).txBuf = s.txBuf := rfl
@[simp] theorem setPowerOnReq_txLen : (setPowerOnReq s).txLen = s.txLen := rfl
@[simp] theorem setPowerOnReq_rxBuf : (setPowerOnReq s).rxBuf = s.rxBuf := rfl
@[simp] theorem setPowerOnReq_rxLen : (setPowerOnReq s).rxLen = s.rxLen := rfl
@[simp] theorem setPowerOnReq_rxCount : (setPowerOnReq s).rxCount = s.rxCount := rfl
@[simp] theorem setPowerOnReq_ready : (setPowerOnReq s).ready = s.ready := rfl
@[simp] theorem setPowerOnReq_busy : (setPowerOnReq s).busy = s.busy := rfl
@[simp] theorem setPowerOnReq_state : (setPowerOnReq s).state = s.state := rfl
@[simp] theorem setPowerOnReq_cfgStep : (setPowerOnReq s).cfgStep = s.cfgStep := rfl
@[simp] theorem setPowerOnReq_powerOnReq : (setPowerOnReq s).powerOnReq = true := rfl
@[simp] theorem setPowerOnReq_wakeReq : (setPowerOnReq s).wakeReq = s.wakeReq := rfl
@[simp] theorem setPowerOnReq_sleepReq : (setPowerOnReq s).sleepReq = s.sleepReq := rfl
@[simp] theorem setPowerOnReq_irqPending : (setPowerOnReq s).irqPending = s.irqPending := rfl
@[simp] theorem setPowerOnReq_deadline : (setPowerOnReq s).deadline = s.deadline := rfl
@[simp] theorem setPowerOnReq_cs : (setPowerOnReq s).cs = s.cs := rfl
@[simp] theorem setPowerOnReq_ce : (setPowerOnReq s).ce = s.ce := rfl
@[simp] theorem setPowerOnReq_faults : (setPowerOnReq s).faults = s.faults := rfl
@[simp] theorem setPowerOnReq_params : (setPowerOnReq s).params = s.params := rfl
@[simp] theorem setPowerOnReq_now : (setPowerOnReq s).now = s.now := rfl
@[simp] theorem setPowerOnReq_driving : (setPowerOnReq s).driving = s.driving := rfl
@[simp] theorem setPowerOnReq_result : (setPowerOnReq s).result = s.result := rfl
@[simp] theorem setPowerOnReq_port : (setPowerOnReq s).port = s.port := rfl
@[simp] theorem setPowerOnReq_agenda : (setPowerOnReq s).agenda = s.agenda := rfl

/-! ## `setWakeReq` -/

@[simp] theorem setWakeReq_configured : (setWakeReq s).configured = s.configured := rfl
@[simp] theorem setWakeReq_cache : (setWakeReq s).cache = s.cache := rfl
@[simp] theorem setWakeReq_pipe : (setWakeReq s).pipe = s.pipe := rfl
@[simp] theorem setWakeReq_txBuf : (setWakeReq s).txBuf = s.txBuf := rfl
@[simp] theorem setWakeReq_txLen : (setWakeReq s).txLen = s.txLen := rfl
@[simp] theorem setWakeReq_rxBuf : (setWakeReq s).rxBuf = s.rxBuf := rfl
@[simp] theorem setWakeReq_rxLen : (setWakeReq s).rxLen = s.rxLen := rfl
@[simp] theorem setWakeReq_rxCount : (setWakeReq s).rxCount = s.rxCount := rfl
@[simp] theorem setWakeReq_ready : (setWakeReq s).ready = s.ready := rfl
@[simp] theorem setWakeReq_busy : (setWakeReq s).busy = s.busy := rfl
@[simp] theorem setWakeReq_state : (setWakeReq s).state = s.state := rfl
@[simp] theorem setWakeReq_cfgStep : (setWakeReq s).cfgStep = s.cfgStep := rfl
@[simp] theorem setWakeReq_powerOnReq : (setWakeReq s).powerOnReq = s.powerOnReq := rfl
@[simp] theorem setWakeReq_wakeReq : (setWakeReq s).wakeReq = true := rfl
@[simp] theorem setWakeReq_sleepReq : (setWakeReq s).sleepReq = s.sleepReq := rfl
@[simp] theorem setWakeReq_irqPending : (setWakeReq s).irqPending = s.irqPending := rfl
@[simp] theorem setWakeReq_deadline : (setWakeReq s).deadline = s.deadline := rfl
@[simp] theorem setWakeReq_cs : (setWakeReq s).cs = s.cs := rfl
@[simp] theorem setWakeReq_ce : (setWakeReq s).ce = s.ce := rfl
@[simp] theorem setWakeReq_faults : (setWakeReq s).faults = s.faults := rfl
@[simp] theorem setWakeReq_params : (setWakeReq s).params = s.params := rfl
@[simp] theorem setWakeReq_now : (setWakeReq s).now = s.now := rfl
@[simp] theorem setWakeReq_driving : (setWakeReq s).driving = s.driving := rfl
@[simp] theorem setWakeReq_result : (setWakeReq s).result = s.result := rfl
@[simp] theorem setWakeReq_port : (setWakeReq s).port = s.port := rfl
@[simp] theorem setWakeReq_agenda : (setWakeReq s).agenda = s.agenda := rfl

/-! ## `setSleepReq` -/

@[simp] theorem setSleepReq_configured : (setSleepReq s).configured = s.configured := rfl
@[simp] theorem setSleepReq_cache : (setSleepReq s).cache = s.cache := rfl
@[simp] theorem setSleepReq_pipe : (setSleepReq s).pipe = s.pipe := rfl
@[simp] theorem setSleepReq_txBuf : (setSleepReq s).txBuf = s.txBuf := rfl
@[simp] theorem setSleepReq_txLen : (setSleepReq s).txLen = s.txLen := rfl
@[simp] theorem setSleepReq_rxBuf : (setSleepReq s).rxBuf = s.rxBuf := rfl
@[simp] theorem setSleepReq_rxLen : (setSleepReq s).rxLen = s.rxLen := rfl
@[simp] theorem setSleepReq_rxCount : (setSleepReq s).rxCount = s.rxCount := rfl
@[simp] theorem setSleepReq_ready : (setSleepReq s).ready = s.ready := rfl
@[simp] theorem setSleepReq_busy : (setSleepReq s).busy = s.busy := rfl
@[simp] theorem setSleepReq_state : (setSleepReq s).state = s.state := rfl
@[simp] theorem setSleepReq_cfgStep : (setSleepReq s).cfgStep = s.cfgStep := rfl
@[simp] theorem setSleepReq_powerOnReq : (setSleepReq s).powerOnReq = s.powerOnReq := rfl
@[simp] theorem setSleepReq_wakeReq : (setSleepReq s).wakeReq = s.wakeReq := rfl
@[simp] theorem setSleepReq_sleepReq : (setSleepReq s).sleepReq = true := rfl
@[simp] theorem setSleepReq_irqPending : (setSleepReq s).irqPending = s.irqPending := rfl
@[simp] theorem setSleepReq_deadline : (setSleepReq s).deadline = s.deadline := rfl
@[simp] theorem setSleepReq_cs : (setSleepReq s).cs = s.cs := rfl
@[simp] theorem setSleepReq_ce : (setSleepReq s).ce = s.ce := rfl
@[simp] theorem setSleepReq_faults : (setSleepReq s).faults = s.faults := rfl
@[simp] theorem setSleepReq_params : (setSleepReq s).params = s.params := rfl
@[simp] theorem setSleepReq_now : (setSleepReq s).now = s.now := rfl
@[simp] theorem setSleepReq_driving : (setSleepReq s).driving = s.driving := rfl
@[simp] theorem setSleepReq_result : (setSleepReq s).result = s.result := rfl
@[simp] theorem setSleepReq_port : (setSleepReq s).port = s.port := rfl
@[simp] theorem setSleepReq_agenda : (setSleepReq s).agenda = s.agenda := rfl

/-! ## `setIrqPending` -/

@[simp] theorem setIrqPending_configured : (setIrqPending s).configured = s.configured := rfl
@[simp] theorem setIrqPending_cache : (setIrqPending s).cache = s.cache := rfl
@[simp] theorem setIrqPending_pipe : (setIrqPending s).pipe = s.pipe := rfl
@[simp] theorem setIrqPending_txBuf : (setIrqPending s).txBuf = s.txBuf := rfl
@[simp] theorem setIrqPending_txLen : (setIrqPending s).txLen = s.txLen := rfl
@[simp] theorem setIrqPending_rxBuf : (setIrqPending s).rxBuf = s.rxBuf := rfl
@[simp] theorem setIrqPending_rxLen : (setIrqPending s).rxLen = s.rxLen := rfl
@[simp] theorem setIrqPending_rxCount : (setIrqPending s).rxCount = s.rxCount := rfl
@[simp] theorem setIrqPending_ready : (setIrqPending s).ready = s.ready := rfl
@[simp] theorem setIrqPending_busy : (setIrqPending s).busy = s.busy := rfl
@[simp] theorem setIrqPending_state : (setIrqPending s).state = s.state := rfl
@[simp] theorem setIrqPending_cfgStep : (setIrqPending s).cfgStep = s.cfgStep := rfl
@[simp] theorem setIrqPending_powerOnReq : (setIrqPending s).powerOnReq = s.powerOnReq := rfl
@[simp] theorem setIrqPending_wakeReq : (setIrqPending s).wakeReq = s.wakeReq := rfl
@[simp] theorem setIrqPending_sleepReq : (setIrqPending s).sleepReq = s.sleepReq := rfl
@[simp] theorem setIrqPending_irqPending : (setIrqPending s).irqPending = true := rfl
@[simp] theorem setIrqPending_deadline : (setIrqPending s).deadline = s.deadline := rfl
@[simp] theorem setIrqPending_cs : (setIrqPending s).cs = s.cs := rfl
@[simp] theorem setIrqPending_ce : (setIrqPending s).ce = s.ce := rfl
@[simp] theorem setIrqPending_faults : (setIrqPending s).faults = s.faults := rfl
@[simp] theorem setIrqPending_params : (setIrqPending s).params = s.params := rfl
@[simp] theorem setIrqPending_now : (setIrqPending s).now = s.now := rfl
@[simp] theorem setIrqPending_driving : (setIrqPending s).driving = s.driving := rfl
@[simp] theorem setIrqPending_result : (setIrqPending s).result = s.result := rfl
@[simp] theorem setIrqPending_port : (setIrqPending s).port = s.port := rfl
@[simp] theorem setIrqPending_agenda : (setIrqPending s).agenda = s.agenda := rfl

/-! ## `clearPowerOnReq` -/

@[simp] theorem clearPowerOnReq_configured : (clearPowerOnReq s).configured = s.configured := rfl
@[simp] theorem clearPowerOnReq_cache : (clearPowerOnReq s).cache = s.cache := rfl
@[simp] theorem clearPowerOnReq_pipe : (clearPowerOnReq s).pipe = s.pipe := rfl
@[simp] theorem clearPowerOnReq_txBuf : (clearPowerOnReq s).txBuf = s.txBuf := rfl
@[simp] theorem clearPowerOnReq_txLen : (clearPowerOnReq s).txLen = s.txLen := rfl
@[simp] theorem clearPowerOnReq_rxBuf : (clearPowerOnReq s).rxBuf = s.rxBuf := rfl
@[simp] theorem clearPowerOnReq_rxLen : (clearPowerOnReq s).rxLen = s.rxLen := rfl
@[simp] theorem clearPowerOnReq_rxCount : (clearPowerOnReq s).rxCount = s.rxCount := rfl
@[simp] theorem clearPowerOnReq_ready : (clearPowerOnReq s).ready = s.ready := rfl
@[simp] theorem clearPowerOnReq_busy : (clearPowerOnReq s).busy = s.busy := rfl
@[simp] theorem clearPowerOnReq_state : (clearPowerOnReq s).state = s.state := rfl
@[simp] theorem clearPowerOnReq_cfgStep : (clearPowerOnReq s).cfgStep = s.cfgStep := rfl
@[simp] theorem clearPowerOnReq_powerOnReq : (clearPowerOnReq s).powerOnReq = false := rfl
@[simp] theorem clearPowerOnReq_wakeReq : (clearPowerOnReq s).wakeReq = s.wakeReq := rfl
@[simp] theorem clearPowerOnReq_sleepReq : (clearPowerOnReq s).sleepReq = s.sleepReq := rfl
@[simp] theorem clearPowerOnReq_irqPending : (clearPowerOnReq s).irqPending = s.irqPending := rfl
@[simp] theorem clearPowerOnReq_deadline : (clearPowerOnReq s).deadline = s.deadline := rfl
@[simp] theorem clearPowerOnReq_cs : (clearPowerOnReq s).cs = s.cs := rfl
@[simp] theorem clearPowerOnReq_ce : (clearPowerOnReq s).ce = s.ce := rfl
@[simp] theorem clearPowerOnReq_faults : (clearPowerOnReq s).faults = s.faults := rfl
@[simp] theorem clearPowerOnReq_params : (clearPowerOnReq s).params = s.params := rfl
@[simp] theorem clearPowerOnReq_now : (clearPowerOnReq s).now = s.now := rfl
@[simp] theorem clearPowerOnReq_driving : (clearPowerOnReq s).driving = s.driving := rfl
@[simp] theorem clearPowerOnReq_result : (clearPowerOnReq s).result = s.result := rfl
@[simp] theorem clearPowerOnReq_port : (clearPowerOnReq s).port = s.port := rfl
@[simp] theorem clearPowerOnReq_agenda : (clearPowerOnReq s).agenda = s.agenda := rfl

/-! ## `clearWakeReq` -/

@[simp] theorem clearWakeReq_configured : (clearWakeReq s).configured = s.configured := rfl
@[simp] theorem clearWakeReq_cache : (clearWakeReq s).cache = s.cache := rfl
@[simp] theorem clearWakeReq_pipe : (clearWakeReq s).pipe = s.pipe := rfl
@[simp] theorem clearWakeReq_txBuf : (clearWakeReq s).txBuf = s.txBuf := rfl
@[simp] theorem clearWakeReq_txLen : (clearWakeReq s).txLen = s.txLen := rfl
@[simp] theorem clearWakeReq_rxBuf : (clearWakeReq s).rxBuf = s.rxBuf := rfl
@[simp] theorem clearWakeReq_rxLen : (clearWakeReq s).rxLen = s.rxLen := rfl
@[simp] theorem clearWakeReq_rxCount : (clearWakeReq s).rxCount = s.rxCount := rfl
@[simp] theorem clearWakeReq_ready : (clearWakeReq s).ready = s.ready := rfl
@[simp] theorem clearWakeReq_busy : (clearWakeReq s).busy = s.busy := rfl
@[simp] theorem clearWakeReq_state : (clearWakeReq s).state = s.state := rfl
@[simp] theorem clearWakeReq_cfgStep : (clearWakeReq s).cfgStep = s.cfgStep := rfl
@[simp] theorem clearWakeReq_powerOnReq : (clearWakeReq s).powerOnReq = s.powerOnReq := rfl
@[simp] theorem clearWakeReq_wakeReq : (clearWakeReq s).wakeReq = false := rfl
@[simp] theorem clearWakeReq_sleepReq : (clearWakeReq s).sleepReq = s.sleepReq := rfl
@[simp] theorem clearWakeReq_irqPending : (clearWakeReq s).irqPending = s.irqPending := rfl
@[simp] theorem clearWakeReq_deadline : (clearWakeReq s).deadline = s.deadline := rfl
@[simp] theorem clearWakeReq_cs : (clearWakeReq s).cs = s.cs := rfl
@[simp] theorem clearWakeReq_ce : (clearWakeReq s).ce = s.ce := rfl
@[simp] theorem clearWakeReq_faults : (clearWakeReq s).faults = s.faults := rfl
@[simp] theorem clearWakeReq_params : (clearWakeReq s).params = s.params := rfl
@[simp] theorem clearWakeReq_now : (clearWakeReq s).now = s.now := rfl
@[simp] theorem clearWakeReq_driving : (clearWakeReq s).driving = s.driving := rfl
@[simp] theorem clearWakeReq_result : (clearWakeReq s).result = s.result := rfl
@[simp] theorem clearWakeReq_port : (clearWakeReq s).port = s.port := rfl
@[simp] theorem clearWakeReq_agenda : (clearWakeReq s).agenda = s.agenda := rfl

/-! ## `clearIrqPending` -/

@[simp] theorem clearIrqPending_configured : (clearIrqPending s).configured = s.configured := rfl
@[simp] theorem clearIrqPending_cache : (clearIrqPending s).cache = s.cache := rfl
@[simp] theorem clearIrqPending_pipe : (clearIrqPending s).pipe = s.pipe := rfl
@[simp] theorem clearIrqPending_txBuf : (clearIrqPending s).txBuf = s.txBuf := rfl
@[simp] theorem clearIrqPending_txLen : (clearIrqPending s).txLen = s.txLen := rfl
@[simp] theorem clearIrqPending_rxBuf : (clearIrqPending s).rxBuf = s.rxBuf := rfl
@[simp] theorem clearIrqPending_rxLen : (clearIrqPending s).rxLen = s.rxLen := rfl
@[simp] theorem clearIrqPending_rxCount : (clearIrqPending s).rxCount = s.rxCount := rfl
@[simp] theorem clearIrqPending_ready : (clearIrqPending s).ready = s.ready := rfl
@[simp] theorem clearIrqPending_busy : (clearIrqPending s).busy = s.busy := rfl
@[simp] theorem clearIrqPending_state : (clearIrqPending s).state = s.state := rfl
@[simp] theorem clearIrqPending_cfgStep : (clearIrqPending s).cfgStep = s.cfgStep := rfl
@[simp] theorem clearIrqPending_powerOnReq : (clearIrqPending s).powerOnReq = s.powerOnReq := rfl
@[simp] theorem clearIrqPending_wakeReq : (clearIrqPending s).wakeReq = s.wakeReq := rfl
@[simp] theorem clearIrqPending_sleepReq : (clearIrqPending s).sleepReq = s.sleepReq := rfl
@[simp] theorem clearIrqPending_irqPending : (clearIrqPending s).irqPending = false := rfl
@[simp] theorem clearIrqPending_deadline : (clearIrqPending s).deadline = s.deadline := rfl
@[simp] theorem clearIrqPending_cs : (clearIrqPending s).cs = s.cs := rfl
@[simp] theorem clearIrqPending_ce : (clearIrqPending s).ce = s.ce := rfl
@[simp] theorem clearIrqPending_faults : (clearIrqPending s).faults = s.faults := rfl
@[simp] theorem clearIrqPending_params : (clearIrqPending s).params = s.params := rfl
@[simp] theorem clearIrqPending_now : (clearIrqPending s).now = s.now := rfl
@[simp] theorem clearIrqPending_driving : (clearIrqPending s).driving = s.driving := rfl
@[simp] theorem clearIrqPending_result : (clearIrqPending s).result = s.result := rfl
@[simp] theorem clearIrqPending_port : (clearIrqPending s).port = s.port := rfl
@[simp] theorem clearIrqPending_agenda : (clearIrqPending s).agenda = s.agenda := rfl

end Sys2Proof.Machine
end

