-- ==== Sys2Proof/Laws/Ops.lean ====
section
/-! SUPPORT. What each shared operation can do, said once: buffers, fault records, lifecycle codes, the guards of the host
port, beginning and ending a frame, CONFIGURE, the pass of H_Configure, the schedule and the step. -/

namespace Sys2Proof.Machine

/-! ## Buffers -/

@[simp] theorem bufferBytes_length (b : Six Byte) : (bufferBytes b).length = 6 := rfl

theorem bufferBytes_injective {a b : Six Byte} (h : bufferBytes a = bufferBytes b) : a = b := by
  cases a; cases b; simp_all [bufferBytes]

/-- Overwriting puts the bytes at the front and keeps the rest. -/
theorem overwrite_bytes (buf : Six Byte) (bytes : List Byte) (h : bytes.length ≤ 6) :
    bufferBytes (overwrite buf bytes) = bytes ++ (bufferBytes buf).drop bytes.length := by
  match bytes, h with
  | [], _ => rfl
  | [_], _ => rfl
  | [_, _], _ => rfl
  | [_, _, _], _ => rfl
  | [_, _, _, _], _ => rfl
  | [_, _, _, _, _], _ => rfl
  | [_, _, _, _, _, _], _ => rfl
  | _ :: _ :: _ :: _ :: _ :: _ :: _ :: _, h => simp only [List.length_cons] at h; omega

/-! ## Fault records and codes -/

theorem hasFault_addFault (r : FaultRecord) (f g : FaultReason) :
    hasFault (addFault f r) g = (hasFault r g || decide (g = f)) := by
  cases f <;> cases g <;> simp [hasFault, addFault]

@[simp] theorem recordFault_none (r : FaultRecord) : recordFault none r = r := rfl

@[simp] theorem recordFault_some (f : FaultReason) (r : FaultRecord) : recordFault (some f) r = addFault f r := rfl

/-- A recorded reason stays. -/
theorem recordFault_keeps (why : Option FaultReason) (r : FaultRecord) (g : FaultReason) (h : hasFault r g = true) :
    hasFault (recordFault why r) g = true := by
  cases why with
  | none => exact h
  | some f => simp [hasFault_addFault, h]

@[simp] theorem lifecycleOf_stateCode (x : LifecycleState) : lifecycleOf (stateCode x) = some x := by cases x <;> rfl

theorem stateCode_le (x : LifecycleState) : (stateCode x).toNat ≤ 11 := by cases x <;> decide

theorem lifecycleOf_eq_some {c : BitVec 4} {x : LifecycleState} (h : lifecycleOf c = some x) : c = stateCode x := by
  revert c; cases x <;> decide

theorem lifecycleOf_eq_none {c : BitVec 4} (h : lifecycleOf c = none) : 12 ≤ c.toNat := by revert c; decide

/-! ## Guards -/

theorem hostOperation_acts {enabled : Bool} {act : State → State} {s : State} (he : enabled = true)
    (hc : s.configured = true) : hostOperation enabled act s = act s := by simp [hostOperation, he, hc]

theorem hostOperation_refuses {enabled : Bool} {act : State → State} {s : State}
    (h : enabled = false ∨ s.configured = false) : hostOperation enabled act s = raise .argumentError none s := by
  unfold hostOperation
  rcases h with h | h <;> simp [h]

/-- A guarded operation raises ArgumentError or acts. -/
theorem hostOperation_cases (enabled : Bool) (act : State → State) (s : State) :
    hostOperation enabled act s = raise .argumentError none s ∨
      enabled = true ∧ s.configured = true ∧ hostOperation enabled act s = act s := by
  cases enabled <;> cases hc : s.configured <;> simp [hostOperation, hc]

/-- An engine operation from outside raises ArgumentError, is refused as an overlap, or begins its frame. -/
theorem engineOperation_cases (ok : Bool) (f : Frame) (s : State) :
    engineOperation ok f s = raise .argumentError none s ∨
      (s.configured = true ∧ s.busy = true ∧ engineOperation ok f s = raise .protocolViolation (some .pvOverlap) s) ∨
      (ok = true ∧ s.configured = true ∧ s.busy = false ∧ engineOperation ok f s = returnCode .ok (beginFrame f s)) := by
  unfold engineOperation
  rcases hostOperation_cases s.params.exposeEngine
    (fun s => if !ok then raise .argumentError none s else engineBegin f s) s with h | ⟨_, hc, h⟩
  · exact .inl h
  · rw [h]
    cases ok <;> cases hb : s.busy <;> simp [hc, engineBegin, hb]

theorem engineOperation_sends {f : Frame} {s : State} (he : s.params.exposeEngine = true) (hc : s.configured = true)
    (hb : s.busy = false) : engineOperation true f s = returnCode .ok (beginFrame f s) := by
  simp [engineOperation, hostOperation, engineBegin, he, hc, hb]

/-! ## Frames -/

/-- Beginning a frame that fits is what the statements call `Begun`. -/
theorem beginFrame_begun (f : Frame) (s : State) (h : f.tx.length ≤ 6) : Begun f s (beginFrame f s) :=
  ⟨overwrite s.txBuf f.tx, overwrite_bytes _ _ h, rfl⟩

/-- A begun frame is the frame in the engine's buffer. -/
theorem engineFrame_of_begun {f : Frame} {s t : State} (h : Begun f s t) : engineFrame t = f := by
  obtain ⟨buf, hb, rfl⟩ := h
  simp [engineFrame, hb]

theorem writeFrame_length (p : Params) (addr : BitVec 5) (bytes : List Byte) :
    (writeFrame p addr bytes).tx.length = bytes.length + 1 := rfl

/-! ## The four forms -/

theorem isForm_readFrame (p : Params) (addr : BitVec 5) {n : Byte} (h : n.toNat ≤ 5) :
    IsForm p (readFrame p addr n.toNat) (.rRegister addr n) :=
  ⟨decide_eq_true h, rfl, fun hr _ => by
    rw [decodeFrame_readFrame hr addr h, BitVec.ofNat_toNat, BitVec.setWidth_eq]⟩

theorem isForm_writeFrame (p : Params) (addr : BitVec 5) {bytes : List Byte} (h : bytes.length ≤ 5) :
    IsForm p (writeFrame p addr bytes) (.wRegister addr bytes) :=
  ⟨decide_eq_true h, rfl, fun _ hw => decodeFrame_writeFrame hw addr h⟩

theorem isForm_flushTx (p : Params) : IsForm p (commandFrame 0xE1) .flushTx := ⟨rfl, rfl, fun _ _ => rfl⟩

theorem isForm_flushRx (p : Params) : IsForm p (commandFrame 0xE2) .flushRx := ⟨rfl, rfl, fun _ _ => rfl⟩

theorem addressPayload_length (c : Cache) (p : Fin 6) : (addressPayload c p).length ≤ 5 := by
  fin_cases p <;> simp [addressPayload, addressBytes]

theorem registerInRange_iff (addr : Byte) : registerInRange addr = true ↔ addr.toNat ≤ 0x1F := by
  unfold registerInRange Config.regAddrBits
  rw [decide_eq_true_eq]
  omega

theorem lengthInRange_iff (n : Nat) : lengthInRange n = true ↔ n ≤ 5 := by
  unfold lengthInRange Config.maxAw
  rw [decide_eq_true_eq]

/-- An address within five bits is the extension of its field. -/
theorem zeroExtend_extract {addr : Byte} (h : addr.toNat ≤ 0x1F) : (addr.extractLsb' 0 5).zeroExtend 8 = addr := by
  apply BitVec.eq_of_toNat_eq
  simp only [BitVec.truncate_eq_setWidth, BitVec.toNat_setWidth, BitVec.extractLsb'_toNat, Nat.shiftRight_zero]
  omega

/-- The states of NOTIFY_DONE, after its guards. -/
theorem notifyDone_cases (bytes : List Byte) (s : State) :
    (s.busy = false ∧ notifyDone bytes s = raise .protocolViolation (some .pvSpuriousDone) s) ∨
      (s.busy = true ∧ s.rxLen < bytes.length ∧ notifyDone bytes s = raise .protocolViolation (some .pvOverlength) s) ∨
      (s.busy = true ∧ bytes.length ≤ s.rxLen ∧ notifyDone bytes s = returnCode .ok (completeFrame bytes s)) := by
  unfold notifyDone
  cases hb : s.busy
  · simp
  · by_cases h : s.rxLen < bytes.length
    · simp [h]
    · simp [h]; omega

/-! ## CONFIGURE -/

/-- CONFIGURE is refused while busy, clears the slate with one of the two errors, or installs a built cache. -/
theorem configure_cases (aw : Byte) (pipes : Six PipeRecord) (s : State) :
    (s.busy = true ∧ configure aw pipes s = raise .protocolViolation (some .pvConfigureBusy) s) ∨
      (s.busy = false ∧ legalWidth s.params aw = false ∧ configure aw pipes s = raise .invalidAddressWidth none (clearSlate s)) ∨
      (s.busy = false ∧ legalWidth s.params aw = true ∧ buildCache s.params aw pipes = none ∧
        configure aw pipes s = raise .invalidP2P5Address none (clearSlate s)) ∨
      (s.busy = false ∧ legalWidth s.params aw = true ∧ ∃ c, buildCache s.params aw pipes = some c ∧
        configure aw pipes s = returnCode .ok { clearSlate s with cache := c, pipe := pipes, configured := true }) := by
  unfold configure
  cases hb : s.busy
  · cases hl : legalWidth s.params aw
    · simp
    · cases hc : buildCache s.params aw pipes <;> simp
  · simp

theorem legalWidth_iff (p : Params) (aw : Byte) : legalWidth p aw = true ↔ aw ∈ p.legalAw := by simp [legalWidth]

/-- At the default of `LEGAL_AW` the legal widths are 3, 4 and 5. -/
theorem default_legalAw (aw : Byte) : aw ∈ Config.defaultParams.legalAw ↔ aw = 3 ∨ aw = 4 ∨ aw = 5 := by
  simp [Config.defaultParams, Config.legalAw]

/-! ## DRIVE -/

theorem configFrame_eq_none (p : Params) (c : Cache) (k : Fin 12) : configFrame p c k = none ↔ k = 11 := by
  fin_cases k <;> simp [configFrame]

/-- The sequence of the model is the table of the statements. -/
theorem configFrame_eq (p : Params) (c : Cache) (k : Fin 12) : configFrame p c k = (configureSequence p c)[k.val]? := by
  fin_cases k <;> rfl

theorem configFrame_length {p : Params} {c : Cache} {k : Fin 12} {f : Frame} (h : configFrame p c k = some f) :
    f.tx.length ≤ 6 ∧ f.rxLen = 0 := by
  have h0 := addressPayload_length c 0
  have h1 := addressPayload_length c 1
  fin_cases k <;> simp only [configFrame, Option.some.injEq, reduceCtorEq] at h <;> subst h <;>
    simp only [writeFrame, commandFrame, List.length_cons, List.length_nil] <;> refine ⟨?_, trivial⟩ <;>
    first | omega | exact Nat.succ_le_succ h0 | exact Nat.succ_le_succ h1 | simp [addressPayload]

/-- One pass of H_Configure returns OK, leaves, is refused as an overlap, or sends its frame and yields. -/
theorem configurePass_cases (s : State) :
    configurePass s = driveReturns .ok s ∨
      (s.state = stateCode .configure ∧ s.ready = true ∧ s.cfgStep = 11 ∧
        configurePass s = driveReturns .ok (enter .sleep { s with cfgStep := 0 })) ∨
      (s.state = stateCode .configure ∧ s.ready = true ∧ s.busy = true ∧
        configurePass s = raise .protocolViolation (some .pvOverlap) { s with driving := false }) ∨
      (s.state = stateCode .configure ∧ s.ready = true ∧ s.busy = false ∧ ∃ f, configFrame s.params s.cache s.cfgStep = some f ∧
        configurePass s = driveYields { beginFrame f s with cfgStep := s.cfgStep + 1 }) := by
  unfold configurePass
  by_cases hp : s.state ≠ stateCode .configure ∨ s.ready = false
  · simp [hp]
  · have hs : s.state = stateCode .configure := by tauto
    have hr : s.ready = true := by cases h : s.ready <;> simp_all
    cases hf : configFrame s.params s.cache s.cfgStep with
    | none => have hk := (configFrame_eq_none _ _ _).mp hf; simp [hs, hr, hk]
    | some f => cases hb : s.busy <;> simp [hs, hr]

/-- DRIVE is a pass of H_Configure at a yield point, an ArgumentError, or the handler of the state. -/
theorem drive_cases (s t : State) (h : exec .drive s = .next t) :
    (s.driving = true ∧ t = configurePass s) ∨ t = raise .argumentError none s ∨
      (s.driving = false ∧ s.configured = true ∧ s.params.includeSequencer = true ∧ t = dispatchState s) := by
  simp only [exec, execDrive, Host.Outcome.next.injEq] at h
  subst h
  rcases Bool.eq_false_or_eq_true s.params.includeSequencer with hi | hi <;>
    rcases Bool.eq_false_or_eq_true s.driving with hd | hd <;>
    rcases Bool.eq_false_or_eq_true s.configured with hc | hc <;> simp [hi, hd, hc, hostOperation]

theorem drive_dispatches {s : State} (h : DriveReady s) : exec .drive s = .next (dispatchState s) := by
  obtain ⟨hc, hi, hd⟩ := h
  simp [exec, execDrive, hd, hostOperation_acts hi hc]

/-- The handler of a lifecycle state. -/
def handlerOf (x : LifecycleState) (s : State) : State :=
  match x with
  | .powerOff => handlePowerOff s
  | .moduleStartup => handleModuleStartup s
  | .configure => configurePass s
  | .sleep => handleSleep s
  | .idle => handleIdle s
  | .externalInterrupt => handleExternalInterrupt s
  | .statusReading => handleStatusReading s
  | .receive => returnCode .ok s
  | .receiving => returnCode .ok s
  | .transmit => returnCode .ok s
  | .transmitting => returnCode .ok s
  | .poweringOff => returnCode .ok s

theorem dispatchState_of {s : State} {x : LifecycleState} (h : s.state = stateCode x) :
    dispatchState s = handlerOf x s := by
  unfold dispatchState
  rw [h, lifecycleOf_stateCode]
  cases x <;> rfl

/-- The state after H_PowerOff's successful micro-step. -/
def poweredOn (s : State) : State :=
  returnCode .ok (enter .moduleStartup
    (beginFrame (writeFrame s.params 0x00 [powerOnConfig s.params.powerOnIrqMask s.cache.config])
      { s with
        powerOnReq := false
        deadline := satAdd64 s.now s.params.startupSettleMs
        cache := { s.cache with config := powerOnConfig s.params.powerOnIrqMask s.cache.config } }))

/-- What the handlers of DRIVE can do, one case each. -/
theorem dispatchState_cases (s : State) :
    dispatchState s = returnCode .ok s ∨
      (s.busy = true ∧ dispatchState s = raise .protocolViolation (some .pvOverlap) s) ∨
      (s.state = stateCode .powerOff ∧ s.powerOnReq = true ∧ s.busy = false ∧ dispatchState s = poweredOn s) ∨
      (s.state = stateCode .moduleStartup ∧ s.ready = true ∧ s.deadline ≤ s.now ∧
        dispatchState s = returnCode .ok (enter .configure { s with cfgStep := 0 })) ∨
      (s.state = stateCode .configure ∧ dispatchState s = configurePass s) ∨
      (s.state = stateCode .sleep ∧ s.wakeReq = true ∧
        dispatchState s = returnCode .ok (enter .idle (setCE true (clearWakeReq s)))) ∨
      (s.state = stateCode .idle ∧ s.irqPending = true ∧
        dispatchState s = returnCode .ok (enter .externalInterrupt (clearIrqPending s))) ∨
      (s.state = stateCode .externalInterrupt ∧ s.busy = false ∧
        dispatchState s = returnCode .ok (enter .statusReading (beginFrame (readFrame s.params 0x17 1) s))) ∨
      (s.state = stateCode .statusReading ∧ s.ready = true ∧ s.rxCount < 2 ∧
        dispatchState s = raise .ok (some .shortResponse) s) ∨
      (s.state = stateCode .statusReading ∧ s.ready = true ∧ 2 ≤ s.rxCount ∧
        dispatchState s = returnCode .ok (enter (nextAfterStatus s.params.nextAfterStatus s.rxBuf.c0 s.rxBuf.c1)
          { s with cache := { s.cache with status := s.rxBuf.c0, fifoStatus := s.rxBuf.c1 } })) := by
  cases hx : lifecycleOf s.state with
  | none => left; simp [dispatchState, hx]
  | some x =>
    have hs := lifecycleOf_eq_some hx
    rw [dispatchState_of hs]
    cases x with
    | powerOff =>
      cases hp : s.powerOnReq
      · left; simp [handlerOf, handlePowerOff, hp]
      · cases hb : s.busy
        · right; right; left; exact ⟨hs, rfl, rfl, by simp [handlerOf, handlePowerOff, hp, hb]; rfl⟩
        · right; left; simp [handlerOf, handlePowerOff, hp, hb]
    | moduleStartup =>
      by_cases hg : s.ready = true ∧ s.deadline ≤ s.now
      · right; right; right; left; exact ⟨hs, hg.1, hg.2, by simp [handlerOf, handleModuleStartup, hg.1, sampleNow, hg.2]⟩
      · left
        simp [handlerOf, handleModuleStartup, sampleNow, hg]
    | configure => right; right; right; right; left; exact ⟨hs, rfl⟩
    | sleep =>
      cases hw : s.wakeReq
      · left; simp [handlerOf, handleSleep, hw]
      · simp [handlerOf, handleSleep, hw, hs]
    | idle =>
      cases hw : s.irqPending
      · left; simp [handlerOf, handleIdle, hw]
      · simp [handlerOf, handleIdle, hw, hs]
    | externalInterrupt =>
      cases hb : s.busy
      · simp [handlerOf, handleExternalInterrupt, hb, hs]
      · right; left; simp [handlerOf, handleExternalInterrupt, hb]
    | statusReading =>
      cases hr : s.ready
      · left; simp [handlerOf, handleStatusReading, hr]
      · by_cases hc : s.rxCount < 2
        · simp [handlerOf, handleStatusReading, hr, hs, hc]
        · have : 2 ≤ s.rxCount := by omega
          simp [handlerOf, handleStatusReading, hr, hs, hc, this]
    | receive => exact .inl rfl
    | receiving => exact .inl rfl
    | transmit => exact .inl rfl
    | transmitting => exact .inl rfl
    | poweringOff => exact .inl rfl

/-! ## The step -/

/-- What a step that gives a next state did: nothing, an instruction, or an environment event. -/
theorem step_cases {s t : State} (h : step s = .next t) :
    t = s ∨ (∃ (i : Instr) (a : List Event), exec i { s with agenda := a } = .next t) ∨
      (∃ (ms : U64) (a : List Event), s.now ≤ ms ∧ t = { s with agenda := a, now := ms, result := none }) ∨
      (∃ a : List Event, t = powerOnReset { s with agenda := a }) := by
  have sub (u : Submission) (a : List Event) (hr : (match runSubmission u { s with agenda := a } with
      | .idle => Host.Outcome.next s
      | .run i s => exec i s
      | .environment s => .next s
      | .stop why => .fault why
      | .refuse why => .refused why) = .next t) : ∃ (i : Instr) (a : List Event), exec i { s with agenda := a } = .next t := by
    unfold runSubmission at hr
    cases hd : decode u with
    | ok i => rw [hd] at hr; exact ⟨i, a, hr⟩
    | error e => rw [hd] at hr; cases hr
  unfold step nextTurn at h
  cases ha : s.agenda with
  | nil =>
    rw [ha] at h
    by_cases hd : s.driving = true
    · simp only [hd, if_true] at h
      exact .inr (.inl ⟨.drive, s.agenda, h⟩)
    · simp only [hd] at h
      left; simpa using h.symm
  | cons e rest =>
    rw [ha] at h
    by_cases hw : (s.driving && waitsForDrive e) = true
    · simp only [hw, if_true] at h
      exact .inr (.inl ⟨.drive, s.agenda, h⟩)
    · simp only [hw, Bool.false_eq_true, if_false, runEvent] at h
      cases e with
      | call u => exact .inr (.inl (sub u rest h))
      | atYield u => exact .inr (.inl (sub u rest h))
      | time ms =>
        simp only [moveTime] at h
        by_cases hm : s.now ≤ ms
        · simp only [hm, if_true, Host.Outcome.next.injEq] at h
          exact .inr (.inr (.inl ⟨ms, rest, hm, h.symm⟩))
        · simp [hm] at h
      | powerOn => simp only [Host.Outcome.next.injEq] at h; exact .inr (.inr (.inr ⟨rest, h.symm⟩))

end Sys2Proof.Machine
end

