-- ==== Sys2Proof/Laws/Configure.lean ====
section
/-! SUPPORT. The configuration builder in closed form: `buildCache_eq` says once what the loop of R210 leaves. -/

namespace Sys2Proof.Machine

/-! ## Addresses -/

theorem addressByte_cases (a : Address) (k : Nat) :
    addressByte a k = match k with | 0 => a.b0 | 1 => a.b1 | 2 => a.b2 | 3 => a.b3 | 4 => a.b4 | _ => 0 := by
  rcases k with _ | _ | _ | _ | _ | k <;> simp [addressByte, addressBytes]

theorem addressByte_truncate (aw : Byte) (a : Address) (k : Nat) :
    addressByte (truncateAddress aw a) k = if k < aw.toNat then addressByte a k else 0 := by
  simp only [addressByte_cases, truncateAddress]
  rcases k with _ | _ | _ | _ | _ | k <;> simp

theorem addressByte_zero (k : Nat) : addressByte zeroAddress k = 0 := by
  rw [addressByte_cases]
  rcases k with _ | _ | _ | _ | _ | k <;> rfl

/-- The Boolean comparison is agreement at the indices 1 to `aw - 1`. -/
theorem upperBytesAgree_iff (aw : Byte) (a r : Address) :
    upperBytesAgree aw a r = true ↔ ∀ k : Nat, 1 ≤ k → k < aw.toNat → addressByte a k = addressByte r k := by
  have one (n : Nat) (x y : Byte) : (!decide (n < aw.toNat) || x == y) = true ↔ (n < aw.toNat → x = y) := by
    by_cases h : n < aw.toNat <;> simp [h]
  simp only [upperBytesAgree, Bool.and_eq_true, one]
  constructor
  · rintro ⟨⟨⟨h1, h2⟩, h3⟩, h4⟩ k hk hw
    simp only [addressByte_cases]
    match k, hk, hw with
    | 1, _, hw => exact h1 hw
    | 2, _, hw => exact h2 hw
    | 3, _, hw => exact h3 hw
    | 4, _, hw => exact h4 hw
    | _ + 5, _, _ => rfl
  · intro hk
    exact ⟨⟨⟨hk 1 (by decide), hk 2 (by decide)⟩, hk 3 (by decide)⟩, hk 4 (by decide)⟩

/-- Bytes from index `aw` on take no part in the comparison. -/
theorem upperBytesAgree_truncate (aw : Byte) (a r : Address) :
    upperBytesAgree aw a (truncateAddress aw r) = upperBytesAgree aw a r := by
  unfold upperBytesAgree truncateAddress
  by_cases h1 : 1 < aw.toNat <;> by_cases h2 : 2 < aw.toNat <;> by_cases h3 : 3 < aw.toNat <;>
    by_cases h4 : 4 < aw.toNat <;> simp [h1, h2, h3, h4]

/-! ## Masks -/

/-- The mask that accumulates `bit(i)` for the pipes chosen, in ascending order. -/
def pipeMask (e : Fin 6 → Bool) : Byte :=
  (((((0 ||| (if e 0 then pipeBit 0 else 0)) ||| (if e 1 then pipeBit 1 else 0)) ||| (if e 2 then pipeBit 2 else 0))
    ||| (if e 3 then pipeBit 3 else 0)) ||| (if e 4 then pipeBit 4 else 0)) ||| (if e 5 then pipeBit 5 else 0)

theorem pipeMask_bits (e : Fin 6 → Bool) (i : Fin 6) : (pipeMask e).getLsbD i = e i := by
  have all : ∀ v : Six Bool, ∀ i : Fin 6, (pipeMask (sixAt v)).getLsbD i = sixAt v i := by
    rintro ⟨e0, e1, e2, e3, e4, e5⟩
    revert e0 e1 e2 e3 e4 e5
    decide
  have he : sixAt ⟨e 0, e 1, e 2, e 3, e 4, e 5⟩ = e := by
    funext j
    fin_cases j <;> rfl
  rw [← he]
  exact all _ i

theorem pipeMask_reserved (e : Fin 6 → Bool) : (pipeMask e).extractLsb' 6 2 = 0 := by
  unfold pipeMask
  cases e 0 <;> cases e 1 <;> cases e 2 <;> cases e 3 <;> cases e 4 <;> cases e 5 <;> rfl

theorem or_ite_bit (b x : Byte) (c : Bool) : (if c then b ||| x else b) = b ||| (if c then x else 0) := by
  cases c <;> simp

/-! ## One pass of the loop -/

theorem buildPipe_0 (p : Params) (aw : Byte) (pipes : Six PipeRecord) (c : Cache) :
    buildPipe p aw pipes 0 c = some { c with
      rxAddrP0 := if pipes.c0.enabled then truncateAddress aw pipes.c0.address else c.rxAddrP0
      enRxaddr := c.enRxaddr ||| if pipes.c0.enabled then pipeBit 0 else 0
      enAa := c.enAa ||| if acknowledges p pipes.c0 then pipeBit 0 else 0 } := by
  unfold buildPipe enablePipe storeAddress
  simp only [sixAt]
  rcases Bool.eq_false_or_eq_true pipes.c0.enabled with he | he <;>
    rcases Bool.eq_false_or_eq_true (acknowledges p pipes.c0) with ha | ha <;> simp [he, ha]

theorem buildPipe_1 (p : Params) (aw : Byte) (pipes : Six PipeRecord) (c : Cache) :
    buildPipe p aw pipes 1 c = some { c with
      rxAddrP1 := if pipes.c1.enabled then truncateAddress aw pipes.c1.address else c.rxAddrP1
      enRxaddr := c.enRxaddr ||| if pipes.c1.enabled then pipeBit 1 else 0
      enAa := c.enAa ||| if acknowledges p pipes.c1 then pipeBit 1 else 0 } := by
  unfold buildPipe enablePipe storeAddress
  simp only [sixAt]
  rcases Bool.eq_false_or_eq_true pipes.c1.enabled with he | he <;>
    rcases Bool.eq_false_or_eq_true (acknowledges p pipes.c1) with ha | ha <;> simp [he, ha]

/-- The pipe passes the check of R204. -/
def pipePasses (p : Params) (aw : Byte) (pipes : Six PipeRecord) (r : PipeRecord) : Bool :=
  !r.enabled || upperBytesAgree aw r.address (comparedWith p pipes)

/-- The address the loop compares with is the one the statements name. -/
theorem pipeReference_agrees (p : Params) (aw : Byte) (pipes : Six PipeRecord) (a : Address) (c : Cache)
    (h : c.rxAddrP1 = if pipes.c1.enabled then truncateAddress aw pipes.c1.address else zeroAddress) :
    upperBytesAgree aw a (pipeReference p pipes c) = upperBytesAgree aw a (comparedWith p pipes) := by
  unfold pipeReference comparedWith
  rw [h]
  cases p.p2p5Reference <;> rcases Bool.eq_false_or_eq_true pipes.c1.enabled with he | he <;>
    simp [he, upperBytesAgree_truncate]

theorem storeAddress_low (p : Params) (aw : Byte) (pipes : Six PipeRecord) {i : Fin 6} (hi : 2 ≤ i.val) (c : Cache) :
    storeAddress p aw pipes i c =
      if upperBytesAgree aw (sixAt pipes i).address (pipeReference p pipes c) then
        some (storeLowByte i (sixAt pipes i).address.b0 c)
      else none := by
  match i, hi with
  | 2, _ => rfl
  | 3, _ => rfl
  | 4, _ => rfl
  | 5, _ => rfl

@[simp] theorem storeLowByte_enRxaddr (i : Fin 6) (b : Byte) (c : Cache) : (storeLowByte i b c).enRxaddr = c.enRxaddr := by
  fin_cases i <;> rfl

@[simp] theorem storeLowByte_enAa (i : Fin 6) (b : Byte) (c : Cache) : (storeLowByte i b c).enAa = c.enAa := by
  fin_cases i <;> rfl

theorem buildPipe_low (p : Params) (aw : Byte) (pipes : Six PipeRecord) {i : Fin 6} (hi : 2 ≤ i.val) (c : Cache)
    (h : c.rxAddrP1 = if pipes.c1.enabled then truncateAddress aw pipes.c1.address else zeroAddress) :
    buildPipe p aw pipes i c =
      if pipePasses p aw pipes (sixAt pipes i) then
        some { (if (sixAt pipes i).enabled then storeLowByte i (sixAt pipes i).address.b0 c else c) with
          enRxaddr := c.enRxaddr ||| if (sixAt pipes i).enabled then pipeBit i else 0
          enAa := c.enAa ||| if acknowledges p (sixAt pipes i) then pipeBit i else 0 }
      else none := by
  unfold buildPipe enablePipe pipePasses
  rw [storeAddress_low p aw pipes hi c, pipeReference_agrees p aw pipes _ c h]
  rcases Bool.eq_false_or_eq_true (sixAt pipes i).enabled with he | he <;>
    rcases Bool.eq_false_or_eq_true (acknowledges p (sixAt pipes i)) with ha | ha <;>
    rcases Bool.eq_false_or_eq_true (upperBytesAgree aw (sixAt pipes i).address (comparedWith p pipes)) with hu | hu <;>
    simp [he, ha, hu]

theorem buildPipe_2 (p : Params) (aw : Byte) (pipes : Six PipeRecord) (c : Cache)
    (h : c.rxAddrP1 = if pipes.c1.enabled then truncateAddress aw pipes.c1.address else zeroAddress) :
    buildPipe p aw pipes 2 c =
      if pipePasses p aw pipes pipes.c2 then
        some { c with
          rxAddrP2 := if pipes.c2.enabled then pipes.c2.address.b0 else c.rxAddrP2
          enRxaddr := c.enRxaddr ||| if pipes.c2.enabled then pipeBit 2 else 0
          enAa := c.enAa ||| if acknowledges p pipes.c2 then pipeBit 2 else 0 }
      else none := by
  rw [buildPipe_low p aw pipes (by decide) c h, show sixAt pipes 2 = pipes.c2 from rfl]
  rcases Bool.eq_false_or_eq_true pipes.c2.enabled with he | he <;> simp [he, storeLowByte]

theorem buildPipe_3 (p : Params) (aw : Byte) (pipes : Six PipeRecord) (c : Cache)
    (h : c.rxAddrP1 = if pipes.c1.enabled then truncateAddress aw pipes.c1.address else zeroAddress) :
    buildPipe p aw pipes 3 c =
      if pipePasses p aw pipes pipes.c3 then
        some { c with
          rxAddrP3 := if pipes.c3.enabled then pipes.c3.address.b0 else c.rxAddrP3
          enRxaddr := c.enRxaddr ||| if pipes.c3.enabled then pipeBit 3 else 0
          enAa := c.enAa ||| if acknowledges p pipes.c3 then pipeBit 3 else 0 }
      else none := by
  rw [buildPipe_low p aw pipes (by decide) c h, show sixAt pipes 3 = pipes.c3 from rfl]
  rcases Bool.eq_false_or_eq_true pipes.c3.enabled with he | he <;> simp [he, storeLowByte]

theorem buildPipe_4 (p : Params) (aw : Byte) (pipes : Six PipeRecord) (c : Cache)
    (h : c.rxAddrP1 = if pipes.c1.enabled then truncateAddress aw pipes.c1.address else zeroAddress) :
    buildPipe p aw pipes 4 c =
      if pipePasses p aw pipes pipes.c4 then
        some { c with
          rxAddrP4 := if pipes.c4.enabled then pipes.c4.address.b0 else c.rxAddrP4
          enRxaddr := c.enRxaddr ||| if pipes.c4.enabled then pipeBit 4 else 0
          enAa := c.enAa ||| if acknowledges p pipes.c4 then pipeBit 4 else 0 }
      else none := by
  rw [buildPipe_low p aw pipes (by decide) c h, show sixAt pipes 4 = pipes.c4 from rfl]
  rcases Bool.eq_false_or_eq_true pipes.c4.enabled with he | he <;> simp [he, storeLowByte]

theorem buildPipe_5 (p : Params) (aw : Byte) (pipes : Six PipeRecord) (c : Cache)
    (h : c.rxAddrP1 = if pipes.c1.enabled then truncateAddress aw pipes.c1.address else zeroAddress) :
    buildPipe p aw pipes 5 c =
      if pipePasses p aw pipes pipes.c5 then
        some { c with
          rxAddrP5 := if pipes.c5.enabled then pipes.c5.address.b0 else c.rxAddrP5
          enRxaddr := c.enRxaddr ||| if pipes.c5.enabled then pipeBit 5 else 0
          enAa := c.enAa ||| if acknowledges p pipes.c5 then pipeBit 5 else 0 }
      else none := by
  rw [buildPipe_low p aw pipes (by decide) c h, show sixAt pipes 5 = pipes.c5 from rfl]
  rcases Bool.eq_false_or_eq_true pipes.c5.enabled with he | he <;> simp [he, storeLowByte]

/-! ## The whole loop -/

/-- What the builder leaves. -/
def builtCache (p : Params) (aw : Byte) (pipes : Six PipeRecord) : Cache where
  config := configuredConfig
  enAa := pipeMask fun i => acknowledges p (sixAt pipes i)
  enRxaddr := pipeMask fun i => (sixAt pipes i).enabled
  setupAw := encodeSetupAw { rsv := 0, aw := awCode aw }
  status := 0
  fifoStatus := 0
  rxAddrP0 := if pipes.c0.enabled then truncateAddress aw pipes.c0.address else zeroAddress
  rxAddrP1 := if pipes.c1.enabled then truncateAddress aw pipes.c1.address else zeroAddress
  rxAddrP2 := if pipes.c2.enabled then pipes.c2.address.b0 else 0
  rxAddrP3 := if pipes.c3.enabled then pipes.c3.address.b0 else 0
  rxAddrP4 := if pipes.c4.enabled then pipes.c4.address.b0 else 0
  rxAddrP5 := if pipes.c5.enabled then pipes.c5.address.b0 else 0

/-- Every pipe 2 to 5 passes. -/
def allPass (p : Params) (aw : Byte) (pipes : Six PipeRecord) : Bool :=
  pipePasses p aw pipes pipes.c2 && pipePasses p aw pipes pipes.c3 && pipePasses p aw pipes pipes.c4 &&
    pipePasses p aw pipes pipes.c5

/-- The builder in closed form. -/
theorem buildCache_eq (p : Params) (aw : Byte) (pipes : Six PipeRecord) :
    buildCache p aw pipes = if allPass p aw pipes then some (builtCache p aw pipes) else none := by
  unfold buildCache allPass
  simp only [buildPipes, buildPipe_0, buildPipe_1]
  rw [buildPipe_2 _ _ _ _ rfl]
  rcases Bool.eq_false_or_eq_true (pipePasses p aw pipes pipes.c2) with h2 | h2
  swap
  · simp [h2]
  simp only [h2, if_true]
  rw [buildPipe_3 _ _ _ _ rfl]
  rcases Bool.eq_false_or_eq_true (pipePasses p aw pipes pipes.c3) with h3 | h3
  swap
  · simp [h3]
  simp only [h3, if_true]
  rw [buildPipe_4 _ _ _ _ rfl]
  rcases Bool.eq_false_or_eq_true (pipePasses p aw pipes pipes.c4) with h4 | h4
  swap
  · simp [h4]
  simp only [h4, if_true]
  rw [buildPipe_5 _ _ _ _ rfl]
  rcases Bool.eq_false_or_eq_true (pipePasses p aw pipes pipes.c5) with h5 | h5
  swap
  · simp [h5]
  simp only [h5, if_true, Bool.and_self]
  rfl

/-- The check of R204 as the statements say it. -/
theorem allPass_iff (p : Params) (aw : Byte) (pipes : Six PipeRecord) :
    allPass p aw pipes = true ↔ PipesAgree p aw pipes := by
  have one (r : PipeRecord) : pipePasses p aw pipes r = true ↔ (r.enabled = true → ∀ k : Nat, 1 ≤ k → k < aw.toNat →
      addressByte r.address k = addressByte (comparedWith p pipes) k) := by
    rw [← upperBytesAgree_iff aw r.address (comparedWith p pipes)]
    unfold pipePasses
    cases r.enabled <;> simp
  unfold allPass PipesAgree
  simp only [Bool.and_eq_true, one]
  constructor
  · rintro ⟨⟨⟨h2, h3⟩, h4⟩, h5⟩ i hi
    match i, hi with
    | 2, _ => exact h2
    | 3, _ => exact h3
    | 4, _ => exact h4
    | 5, _ => exact h5
  · intro ha
    exact ⟨⟨⟨ha 2 (by decide), ha 3 (by decide)⟩, ha 4 (by decide)⟩, ha 5 (by decide)⟩

/-- The closed form is the cache the statements describe. -/
theorem builtCache_built (p : Params) (aw : Byte) (pipes : Six PipeRecord) (h : aw = 3 ∨ aw = 4 ∨ aw = 5) :
    BuiltCache p aw pipes (builtCache p aw pipes) where
  config := by show configuredConfig = 0x08; decide
  setupAw := by rcases h with rfl | rfl | rfl <;> simp only [builtCache] <;> decide
  status := ⟨rfl, rfl⟩
  enRxaddr i := by simp only [builtCache, pipeMask_bits]
  enAa i := by simp only [builtCache, pipeMask_bits, acknowledges]
  reserved := by simp only [builtCache, decodeEnRxAddr, decodeEnAa, pipeMask_reserved, and_self]
  fullP0 k := by
    simp only [builtCache]
    rcases Bool.eq_false_or_eq_true pipes.c0.enabled with he | he <;> simp [he, addressByte_truncate, addressByte_zero]
  fullP1 k := by
    simp only [builtCache]
    rcases Bool.eq_false_or_eq_true pipes.c1.enabled with he | he <;> simp [he, addressByte_truncate, addressByte_zero]
  lowP2 := rfl
  lowP3 := rfl
  lowP4 := rfl
  lowP5 := rfl

end Sys2Proof.Machine
end

