-- ==== Sys2Proof/Laws/Effect.lean ====
section
/-! SUPPORT. The inversion of `exec`: everything an instruction can do, one case each, with what holds in that case. The
whole-machine rules follow by cases on it. -/

namespace Sys2Proof.Machine

/-- `Effect i s t`: instruction `i` takes `s` to `t`. -/
inductive Effect (i : Instr) (s : State) : State → Prop where
  /-- ArgumentError, nothing changed -/
  | argumentError : isConfigure i = false → Effect i s (raise .argumentError none s)
  /-- an engine operation while a frame is outstanding -/
  | overlap : isEngineOperation i = true → s.busy = true → Effect i s (raise .protocolViolation (some .pvOverlap) s)
  /-- an engine operation begins its frame -/
  | begun (f : Frame) (j : Instr) : isEngineOperation i = true → s.configured = true → s.busy = false → f.tx.length ≤ 6 →
      f.rxLen ≤ 6 → IsForm s.params f j → Effect i s (returnCode .ok (beginFrame f s))
  | powerOnRequested : i = .reqPowerOn → s.configured = true → Effect i s (returnCode .ok (setPowerOnReq s))
  | wakeRequested : i = .reqWake → s.configured = true → Effect i s (returnCode .ok (setWakeReq s))
  | sleepRequested : i = .reqSleep → s.configured = true → Effect i s (returnCode .ok (setSleepReq s))
  | interruptNotified : i = .notifyIrq → s.configured = true → Effect i s (returnCode .ok (setIrqPending s))
  | spurious (b : List Byte) : i = .notifyDone b → s.busy = false →
      Effect i s (raise .protocolViolation (some .pvSpuriousDone) s)
  | overlength (b : List Byte) : i = .notifyDone b → s.busy = true → s.rxLen < b.length →
      Effect i s (raise .protocolViolation (some .pvOverlength) s)
  | completed (b : List Byte) : i = .notifyDone b → s.configured = true → s.busy = true → b.length ≤ s.rxLen →
      Effect i s (returnCode .ok (completeFrame b s))
  | configureBusy : isConfigure i = true → s.busy = true → Effect i s (raise .protocolViolation (some .pvConfigureBusy) s)
  | badWidth : isConfigure i = true → s.busy = false → Effect i s (raise .invalidAddressWidth none (clearSlate s))
  | badPipes : isConfigure i = true → s.busy = false → Effect i s (raise .invalidP2P5Address none (clearSlate s))
  | configured (aw : Byte) (pipes : Six PipeRecord) (c : Cache) : i = .configure aw pipes → s.busy = false →
      legalWidth s.params aw = true → buildCache s.params aw pipes = some c →
      Effect i s (returnCode .ok { clearSlate s with cache := c, pipe := pipes, configured := true })
  /-- DRIVE returns OK with nothing done -/
  | parked : i = .drive → Effect i s (driveReturns .ok s)
  /-- a handler's begin while a frame is outstanding -/
  | driveOverlap : i = .drive → s.busy = true →
      Effect i s (raise .protocolViolation (some .pvOverlap) { s with driving := false })
  | poweredOn : i = .drive → s.state = stateCode .powerOff → s.powerOnReq = true → s.busy = false → Effect i s (poweredOn s)
  | toConfigure : i = .drive → s.state = stateCode .moduleStartup → s.ready = true → s.deadline ≤ s.now →
      Effect i s (returnCode .ok (enter .configure { s with cfgStep := 0 }))
  | issued (f : Frame) : i = .drive → s.state = stateCode .configure → s.ready = true → s.busy = false →
      configFrame s.params s.cache s.cfgStep = some f → Effect i s (driveYields { beginFrame f s with cfgStep := s.cfgStep + 1 })
  | toSleep : i = .drive → s.state = stateCode .configure → s.ready = true → s.cfgStep = 11 →
      Effect i s (driveReturns .ok (enter .sleep { s with cfgStep := 0 }))
  | woken : i = .drive → s.state = stateCode .sleep → s.wakeReq = true →
      Effect i s (returnCode .ok (enter .idle (setCE true (clearWakeReq s))))
  | interrupted : i = .drive → s.state = stateCode .idle → s.irqPending = true →
      Effect i s (returnCode .ok (enter .externalInterrupt (clearIrqPending s)))
  | statusRead : i = .drive → s.state = stateCode .externalInterrupt → s.busy = false →
      Effect i s (returnCode .ok (enter .statusReading (beginFrame (readFrame s.params 0x17 1) s)))
  | shortResponse : i = .drive → s.state = stateCode .statusReading → s.ready = true → s.rxCount < 2 →
      Effect i s (raise .ok (some .shortResponse) s)
  | statusDecoded : i = .drive → s.state = stateCode .statusReading → s.ready = true → 2 ≤ s.rxCount →
      Effect i s (returnCode .ok (enter (nextAfterStatus s.params.nextAfterStatus s.rxBuf.c0 s.rxBuf.c1)
        { s with cache := { s.cache with status := s.rxBuf.c0, fifoStatus := s.rxBuf.c1 } }))

/-- An engine operation is no CONFIGURE. -/
theorem engine_not_configure {i : Instr} (h : isEngineOperation i = true) : isConfigure i = false := by
  cases i <;> first | rfl | cases h

theorem effect_of_engine {i : Instr} {s : State} {ok : Bool} {f : Frame} (hi : isEngineOperation i = true)
    (hf : ok = true → f.tx.length ≤ 6 ∧ f.rxLen ≤ 6 ∧ ∃ j, IsForm s.params f j) :
    Effect i s (engineOperation ok f s) := by
  rcases engineOperation_cases ok f s with h | ⟨_, hb, h⟩ | ⟨ho, hc, hb, h⟩ <;> rw [h]
  · exact .argumentError (engine_not_configure hi)
  · exact .overlap hi hb
  · obtain ⟨h1, h2, j, h3⟩ := hf ho
    exact .begun f j hi hc hb h1 h2 h3

theorem effect_of_dispatch {s : State} (hd : s.driving = false) : Effect .drive s (dispatchState s) := by
  have hs : { s with driving := false } = s := by rw [← hd]
  rcases dispatchState_cases s with h | ⟨hb, h⟩ | ⟨h1, h2, h3, h⟩ | ⟨h1, h2, h3, h⟩ | ⟨h1, h⟩ | ⟨h1, h2, h⟩ | ⟨h1, h2, h⟩ |
    ⟨h1, h2, h⟩ | ⟨h1, h2, h3, h⟩ | ⟨h1, h2, h3, h⟩ <;> rw [h]
  · have : returnCode .ok s = driveReturns .ok s := by unfold driveReturns; rw [hs]
    rw [this]; exact .parked rfl
  · have := Effect.driveOverlap (i := .drive) rfl hb
    rwa [hs] at this
  · exact .poweredOn rfl h1 h2 h3
  · exact .toConfigure rfl h1 h2 h3
  · rcases configurePass_cases s with g | ⟨_, g2, g3, g⟩ | ⟨_, _, g3, g⟩ | ⟨_, g2, g3, f, g4, g⟩ <;> rw [g]
    · exact .parked rfl
    · exact .toSleep rfl h1 g2 g3
    · exact .driveOverlap rfl g3
    · exact .issued f rfl h1 g2 g3 g4
  · exact .woken rfl h1 h2
  · exact .interrupted rfl h1 h2
  · exact .statusRead rfl h1 h2
  · exact .shortResponse rfl h1 h2 h3
  · exact .statusDecoded rfl h1 h2 h3

/-- Every next state of an instruction is one of the cases of `Effect`. -/
theorem exec_effect {i : Instr} {s t : State} (h : exec i s = .next t) : Effect i s t := by
  cases i with
  | drive =>
    rcases drive_cases s t h with ⟨_, rfl⟩ | rfl | ⟨hd, _, _, rfl⟩
    · rcases configurePass_cases s with g | ⟨g1, g2, g3, g⟩ | ⟨_, _, g3, g⟩ | ⟨g1, g2, g3, f, g4, g⟩ <;> rw [g]
      · exact .parked rfl
      · exact .toSleep rfl g1 g2 g3
      · exact .driveOverlap rfl g3
      · exact .issued f rfl g1 g2 g3 g4
    · exact .argumentError rfl
    · exact effect_of_dispatch hd
  | configure aw pipes =>
    cases h
    rcases configure_cases aw pipes s with ⟨hb, g⟩ | ⟨hb, _, g⟩ | ⟨hb, _, _, g⟩ | ⟨hb, hl, c, hc, g⟩ <;> rw [g]
    · exact .configureBusy rfl hb
    · exact .badWidth rfl hb
    · exact .badPipes rfl hb
    · exact .configured aw pipes c rfl hb hl hc
  | rRegister addr n =>
    cases h
    refine effect_of_engine rfl fun ho => ?_
    have hn := (lengthInRange_iff _).mp ho
    exact ⟨by simp [readFrame], by simp [readFrame]; omega, _, isForm_readFrame s.params addr hn⟩
  | wRegister addr bytes =>
    cases h
    refine effect_of_engine rfl fun ho => ?_
    have hn := (lengthInRange_iff _).mp ho
    exact ⟨by simp [writeFrame]; omega, by simp [writeFrame], _, isForm_writeFrame s.params addr hn⟩
  | flushTx => cases h; exact effect_of_engine rfl fun _ => ⟨by decide, by decide, .flushTx, isForm_flushTx s.params⟩
  | flushRx => cases h; exact effect_of_engine rfl fun _ => ⟨by decide, by decide, .flushRx, isForm_flushRx s.params⟩
  | beginWrite addr bytes =>
    cases h
    refine effect_of_engine rfl fun ho => ?_
    have hn := (lengthInRange_iff _).mp (Bool.and_elim_right ho)
    exact ⟨by simp [writeFrame]; omega, by simp [writeFrame], _, isForm_writeFrame s.params _ hn⟩
  | beginRead addr n =>
    cases h
    refine effect_of_engine rfl fun ho => ?_
    have hn := (lengthInRange_iff _).mp (Bool.and_elim_right ho)
    exact ⟨by simp [readFrame], by simp [readFrame]; omega, _, isForm_readFrame s.params _ hn⟩
  | beginCommand cmd =>
    cases h
    refine effect_of_engine rfl fun ho => ?_
    have hc : cmd = 0xE1 ∨ cmd = 0xE2 := by simpa [Config.opFlushTx, Config.opFlushRx] using ho
    rcases hc with rfl | rfl
    · exact ⟨by decide, by decide, .flushTx, isForm_flushTx s.params⟩
    · exact ⟨by decide, by decide, .flushRx, isForm_flushRx s.params⟩
  | reqPowerOn =>
    cases h
    rcases hostOperation_cases true (fun s => returnCode .ok (setPowerOnReq s)) s with g | ⟨_, hc, g⟩ <;> rw [g]
    exacts [.argumentError rfl, .powerOnRequested rfl hc]
  | reqWake =>
    cases h
    rcases hostOperation_cases true (fun s => returnCode .ok (setWakeReq s)) s with g | ⟨_, hc, g⟩ <;> rw [g]
    exacts [.argumentError rfl, .wakeRequested rfl hc]
  | reqSleep =>
    cases h
    rcases hostOperation_cases true (fun s => returnCode .ok (setSleepReq s)) s with g | ⟨_, hc, g⟩ <;> rw [g]
    exacts [.argumentError rfl, .sleepRequested rfl hc]
  | notifyIrq =>
    cases h
    rcases hostOperation_cases true (fun s => returnCode .ok (setIrqPending s)) s with g | ⟨_, hc, g⟩ <;> rw [g]
    exacts [.argumentError rfl, .interruptNotified rfl hc]
  | notifyDone bytes =>
    cases h
    rcases hostOperation_cases true (notifyDone bytes) s with g | ⟨_, hc, g⟩ <;> rw [g]
    · exact .argumentError rfl
    · rcases notifyDone_cases bytes s with ⟨hb, k⟩ | ⟨hb, hl, k⟩ | ⟨hb, hl, k⟩ <;> rw [k]
      exacts [.spurious bytes rfl hb, .overlength bytes rfl hb hl, .completed bytes rfl hc hb hl]
  | reservedHop7 => cases h; exact .argumentError rfl
  | reservedHopB => cases h; exact .argumentError rfl
  | reservedHopC => cases h; exact .argumentError rfl
  | reservedHopD => cases h; exact .argumentError rfl
  | reservedHopE => cases h; exact .argumentError rfl
  | reservedHopF => cases h; exact .argumentError rfl

end Sys2Proof.Machine
end

