-- ==== Sys2Proof/Laws/PerInstr.lean ====
section
/-! SUPPORT. A law of every instruction as syntax, case by case: its encoding fits its row of the opcode table. -/

namespace Sys2Proof.Laws.Opcode

/-- The row's `match` and `mask`, as spec/opcode_table.json gives them, and whether the row is a frame of the wire. -/
def row : Instr → Byte × Byte × Bool
  | .rRegister _ _ => (0x00, 0xE0, true)
  | .wRegister _ _ => (0x20, 0xE0, true)
  | .flushTx => (0xE1, 0xFF, true)
  | .flushRx => (0xE2, 0xFF, true)
  | .configure _ _ => (0x0, 0xF, false)
  | .drive => (0x1, 0xF, false)
  | .reqPowerOn => (0x2, 0xF, false)
  | .reqWake => (0x3, 0xF, false)
  | .reqSleep => (0x4, 0xF, false)
  | .notifyIrq => (0x5, 0xF, false)
  | .notifyDone _ => (0x6, 0xF, false)
  | .beginWrite _ _ => (0x8, 0xF, false)
  | .beginRead _ _ => (0x9, 0xF, false)
  | .beginCommand _ => (0xA, 0xF, false)
  | .reservedHop7 => (0x7, 0xF, false)
  | .reservedHopB => (0xB, 0xF, false)
  | .reservedHopC => (0xC, 0xF, false)
  | .reservedHopD => (0xD, 0xF, false)
  | .reservedHopE => (0xE, 0xF, false)
  | .reservedHopF => (0xF, 0xF, false)

/-- The first byte of a submission, and whether it is a frame. -/
def firstByte : Submission → Option Byte × Bool
  | .host record => (record.head?, false)
  | .frame f => (f.tx.head?, true)

/-- The encoding's first byte under the row's mask is the row's match, on the row's port. -/
def Statement (i : Instr) : Prop :=
  ∃ b : Byte, firstByte (encode i) = (some b, (row i).2.2) ∧ b &&& (row i).2.1 = (row i).1

theorem rRegister (addr : BitVec 5) (n : Byte) : Statement (.rRegister addr n) :=
  ⟨registerCommand 0x00 addr, rfl, by simp only [row]; revert addr; decide⟩

theorem wRegister (addr : BitVec 5) (bytes : List Byte) : Statement (.wRegister addr bytes) :=
  ⟨registerCommand 0x20 addr, rfl, by simp only [row]; revert addr; decide⟩

theorem flushTx : Statement .flushTx := ⟨0xE1, rfl, rfl⟩
theorem flushRx : Statement .flushRx := ⟨0xE2, rfl, rfl⟩
theorem configure (aw : Byte) (pipes : Six PipeRecord) : Statement (.configure aw pipes) :=
  ⟨0x0, rfl, by simp only [row]; decide⟩
theorem drive : Statement .drive := ⟨0x1, rfl, rfl⟩
theorem reqPowerOn : Statement .reqPowerOn := ⟨0x2, rfl, rfl⟩
theorem reqWake : Statement .reqWake := ⟨0x3, rfl, rfl⟩
theorem reqSleep : Statement .reqSleep := ⟨0x4, rfl, rfl⟩
theorem notifyIrq : Statement .notifyIrq := ⟨0x5, rfl, rfl⟩
theorem notifyDone (bytes : List Byte) : Statement (.notifyDone bytes) :=
  ⟨0x6, rfl, by simp only [row]; decide⟩
theorem beginWrite (addr : Byte) (bytes : List Byte) : Statement (.beginWrite addr bytes) :=
  ⟨0x8, rfl, by simp only [row]; decide⟩
theorem beginRead (addr n : Byte) : Statement (.beginRead addr n) :=
  ⟨0x9, rfl, by simp only [row]; decide⟩
theorem beginCommand (cmd : Byte) : Statement (.beginCommand cmd) :=
  ⟨0xA, rfl, by simp only [row]; decide⟩
theorem reservedHop7 : Statement .reservedHop7 := ⟨0x7, rfl, rfl⟩
theorem reservedHopB : Statement .reservedHopB := ⟨0xB, rfl, rfl⟩
theorem reservedHopC : Statement .reservedHopC := ⟨0xC, rfl, rfl⟩
theorem reservedHopD : Statement .reservedHopD := ⟨0xD, rfl, rfl⟩
theorem reservedHopE : Statement .reservedHopE := ⟨0xE, rfl, rfl⟩
theorem reservedHopF : Statement .reservedHopF := ⟨0xF, rfl, rfl⟩

end Sys2Proof.Laws.Opcode
end

