-- ==== Sys2Proof/Tests/Slice0.lean ====
section
/-! SUPPORT. Named tests: the smoke test of WellFormed, words written out from the spec's encodings, one-step vectors of
95_test_vectors.md (cited by their ids), and for each statement with hypotheses a state that meets them. -/

namespace Sys2Proof.Tests

open Sys2Proof Sys2Proof.Machine

/-! ## WellFormed refuses -/

/-- A read of six register bytes does not fit a response buffer of six bytes (R245). -/
theorem test_wellFormed_read_too_long : WellFormed (.rRegister 0x0A 6) = false := by decide

/-- A write of six payload bytes does not fit a frame (R245). -/
theorem test_wellFormed_write_too_long : WellFormed (.wRegister 0x0A [1, 2, 3, 4, 5, 6]) = false := by decide

/-- 256 bytes have no `u8` count (R132). -/
theorem test_wellFormed_done_too_long : WellFormed (.notifyDone (List.replicate 256 0)) = false := by
  simp only [WellFormed, fitsCount, List.length_replicate]; decide

/-- 256 bytes have no `u8` count (R132). -/
theorem test_wellFormed_beginWrite_too_long : WellFormed (.beginWrite 0x0A (List.replicate 256 0)) = false := by
  simp only [WellFormed, fitsCount, List.length_replicate]; decide

/-- An operand the block itself refuses is well formed: it is encoded, and its meaning raises ArgumentError (E5). -/
theorem test_wellFormed_refused_by_the_block : WellFormed (.beginWrite 0x0B [1, 2, 3, 4, 5, 6]) = true := by decide

/-! ## Words written out from R121, R123 and R132 -/

/-- R_REGISTER of FIFO_STATUS, one register byte: 000 10111 (E6). -/
theorem test_decode_rRegister : decode (.frame ⟨[0b00010111#8], 2⟩) = .ok (.rRegister 0x17 1) := by decide

/-- W_REGISTER of EN_AA: 001 00001 and the payload (R246's example). -/
theorem test_decode_wRegister : decode (.frame ⟨[0b00100001#8, 0x07], 0⟩) = .ok (.wRegister 0x01 [0x07]) := by decide

/-- FLUSH_TX is 0xE1 and FLUSH_RX is 0xE2 (R123). -/
theorem test_decode_flush : decode (.frame ⟨[0b11100001#8], 0⟩) = .ok .flushTx ∧
    decode (.frame ⟨[0b11100010#8], 0⟩) = .ok .flushRx := by decide

/-- CONFIGURE, hop 0x0: the width, then six records of two flags, five address bytes and a handle (log entry 4). -/
theorem test_decode_configure :
    decode (.host ([0b0000#8, 5] ++ [1, 0, 0xE7, 0xE6, 0xE5, 0xE4, 0xE3, 0x04, 0x03, 0x02, 0x01] ++ List.replicate 55 0)) =
      .ok (.configure 5 ⟨⟨true, false, ⟨0xE7, 0xE6, 0xE5, 0xE4, 0xE3⟩, 0x01020304⟩, zeroPipe, zeroPipe, zeroPipe, zeroPipe,
        zeroPipe⟩) := by decide

/-- The operations without operands, hops 0x1 to 0x5 (R132). -/
theorem test_decode_plain : decode (.host [0b0001#8]) = .ok .drive ∧ decode (.host [0b0010#8]) = .ok .reqPowerOn ∧
    decode (.host [0b0011#8]) = .ok .reqWake ∧ decode (.host [0b0100#8]) = .ok .reqSleep ∧
    decode (.host [0b0101#8]) = .ok .notifyIrq := by decide

/-- NOTIFY_DONE, hop 0x6: `n` and `n` bytes (R132). -/
theorem test_decode_notifyDone : decode (.host [0b0110#8, 2, 0x0E, 0x01]) = .ok (.notifyDone [0x0E, 0x01]) := by decide

/-- The begin operations, hops 0x8 to 0xA (R132). -/
theorem test_decode_begin : decode (.host [0b1000#8, 0x0A, 1, 0xE7]) = .ok (.beginWrite 0x0A [0xE7]) ∧
    decode (.host [0b1001#8, 0x17, 1]) = .ok (.beginRead 0x17 1) ∧
    decode (.host [0b1010#8, 0xE2]) = .ok (.beginCommand 0xE2) := by decide

/-- The reserved codes, 0x7 and 0xB to 0xF (R132). -/
theorem test_decode_reserved : decode (.host [0b0111#8]) = .ok .reservedHop7 ∧
    decode (.host [0b1011#8]) = .ok .reservedHopB ∧ decode (.host [0b1100#8]) = .ok .reservedHopC ∧
    decode (.host [0b1101#8]) = .ok .reservedHopD ∧ decode (.host [0b1110#8]) = .ok .reservedHopE ∧
    decode (.host [0b1111#8]) = .ok .reservedHopF := by decide

/-- What is no instruction is refused by name. -/
theorem test_decode_refuses : decode (.host []) = .error .emptyRecord ∧ decode (.host [0x10]) = .error (.notAHop 0x10) ∧
    decode (.host [0x06, 2, 0x0E]) = .error .truncated ∧ decode (.host [0x01, 0]) = .error .trailing ∧
    decode (.frame ⟨[], 0⟩) = .error .emptyFrame ∧ decode (.frame ⟨[0x61], 1⟩) = .error (.notEmitted 0x61) ∧
    decode (.frame ⟨[0x17], 0⟩) = .error .badLength := by decide

/-- E15. -/
theorem test_decodeCmd : [0x00, 0x17, 0x2A, 0x3F, 0xE1, 0xE2, 0x40, 0x61, 0xE3, 0xFF].map decodeCmd =
    [.rRegister 0x00, .rRegister 0x17, .wRegister 0x0A, .wRegister 0x1F, .flushTx, .flushRx, .notEmitted 0x40,
      .notEmitted 0x61, .notEmitted 0xE3, .notEmitted 0xFF] := by decide

/-! ## Register model, arithmetic and parse -/

/-- M1 and M2. -/
theorem test_decode_config : decodeConfig 0x3B = ⟨0, 0, 1, 1, 1, 0, 1, 1⟩ ∧ decodeConfig 0x08 = ⟨0, 0, 0, 0, 1, 0, 0, 0⟩ := by
  decide

/-- M4, M5 and M6: the masks are assigned and the other bits kept. -/
theorem test_powerOnConfig : powerOnConfig 0b011 0x08 = 0x3B ∧ powerOnConfig 0b111 0x08 = 0x7B ∧
    powerOnConfig 0b000 0x08 = 0x0B ∧ powerOnConfig 0b100 0x08 = 0x4B ∧ powerOnConfig 0b011 0x88 = 0xBB ∧
    powerOnConfig 0b000 0x78 = 0x0B := by decide

/-- M7, M8 and A3. -/
theorem test_masks : encodeEnAa ⟨0, 0b000111⟩ = 0x07 ∧ decodeEnRxAddr 0xC5 = ⟨0b11, 0b000101⟩ ∧ pipeBit 0 = 0x01 ∧
    pipeBit 5 = 0x20 ∧ (pipeBit 0 ||| pipeBit 2 ||| pipeBit 5) = 0x25 := by decide

/-- M9, M10 and A2. -/
theorem test_width_codes : awCode 3 = 0b01 ∧ awCode 4 = 0b10 ∧ awCode 5 = 0b11 ∧ widthOf 0b00 = none ∧
    widthOf 0b11 = some 5 ∧ decodeSetupAw 0xFF = ⟨0x3F, 0b11⟩ ∧ addressWidth { zeroCache with setupAw := 0x02 } = 4 := by decide

/-- M11 and M12. -/
theorem test_status : rxPipe (decodeStatus 0x0E) = .rxEmpty ∧ decodeStatus 0x40 = ⟨0, 1, 0, 0, 0, 0⟩ ∧
    rxPipe (decodeStatus 0x40) = .pipe 0 ∧ rxPipe (decodeStatus 0x4C) = .unused ∧ rxPipe (decodeStatus 0x0B) = .pipe 5 ∧
    (decodeStatus 0x0B).txFull = 1 := by decide

/-- M13 and M14, the latter on the peripheral's reset value in its register map (R171). -/
theorem test_fifo_status : decodeFifoStatus 0x01 = ⟨0, 0, 0, 0, 0, 0, 1⟩ ∧ decodeFifoStatus 0x62 = ⟨0, 1, 1, 0, 0, 1, 0⟩ ∧
    (peripheralRow 0x17).map (fun r => r.resetValue.map decodeFifoStatus) = some [⟨0, 0, 0, 1, 0, 0, 1⟩] := by decide

/-- M15: `aw` bytes of an address register, one byte of the others. -/
theorem test_address_payload :
    addressPayload { zeroCache with setupAw := 2, rxAddrP0 := ⟨0xE7, 0xE6, 0xE5, 0xE4, 0⟩ } 0 = [0xE7, 0xE6, 0xE5, 0xE4] ∧
    addressPayload { zeroCache with setupAw := 2, rxAddrP3 := 0xA1 } 3 = [0xA1] := by decide

/-- A1. -/
theorem test_satAdd64 : satAdd64 0 100 = 100 ∧ satAdd64 (-1) 100 = -1 ∧ satAdd64 (-101) 100 = -1 := by decide

/-- E16 and E17. -/
theorem test_parse : parseResponse ⟨0x0E, 0x01, 9, 9, 9, 9⟩ 2 = ⟨some 0x0E, [0x01]⟩ ∧
    parseResponse ⟨0x0E, 0x01, 9, 9, 9, 9⟩ 0 = ⟨none, []⟩ := by decide


/-- The numbers of R400 and R47, and the in-scope registers of R91 at the ends of its ranges. -/
theorem test_numbers : [ResultCode.ok, .invalidAddressWidth, .invalidP2P5Address, .argumentError, .protocolViolation].map
      resultNumber = [0, 1, 2, 3, 4] ∧
    [LifecycleState.powerOff, .sleep, .receive, .poweringOff].map stateCode = [0, 3, 7, 11] ∧
    [0x03, 0x04, 0x07, 0x09, 0x0A, 0x0F, 0x10, 0x17, 0x18].map inScopeRegister =
      [true, false, true, false, true, true, false, true, false] := by decide

/-- R21: the default parameters are a legal choice. -/
theorem test_default_params_legal : LegalParams State.reset.params := ⟨.inl rfl, by unfold CodableWidths; decide⟩

/-! ## Small states -/

/-- The next state of an outcome. -/
def nextOf (o : Host.Outcome State Fault Refusal) : Option State :=
  match o with
  | .next t => some t
  | .fault _ => none
  | .refused _ => none

/-- The outcome is a next state of which `p` holds. -/
def after (o : Host.Outcome State Fault Refusal) (p : State → Bool) : Bool := (nextOf o).any p

/-- Six records whose upper bytes agree with pipe 1 (C9). -/
def pipesC9 : Six PipeRecord where
  c0 := ⟨true, true, ⟨0xE7, 0xE7, 0xE7, 0xE7, 0xE7⟩, 0⟩
  c1 := ⟨true, true, ⟨0xC2, 0xC2, 0xC2, 0xC2, 0xC2⟩, 0⟩
  c2 := ⟨true, true, ⟨0xC3, 0xC2, 0xC2, 0xC2, 0xC2⟩, 0⟩
  c3 := ⟨true, true, ⟨0xC4, 0xC2, 0xC2, 0xC2, 0xC2⟩, 0⟩
  c4 := ⟨true, true, ⟨0xC5, 0xC2, 0xC2, 0xC2, 0xC2⟩, 0⟩
  c5 := ⟨true, true, ⟨0xC6, 0xC2, 0xC2, 0xC2, 0xC2⟩, 0⟩

/-- Pipes 1 and 2 of C4 and C5: they agree at width 3 and differ at width 4. -/
def pipesC4 : Six PipeRecord where
  c0 := zeroPipe
  c1 := ⟨true, false, ⟨0x11, 0x22, 0x33, 0x44, 0x55⟩, 0⟩
  c2 := ⟨true, true, ⟨0x99, 0x22, 0x33, 0, 0⟩, 0⟩
  c3 := zeroPipe
  c4 := zeroPipe
  c5 := zeroPipe

/-- A configured block with the engine exposed, in the lifecycle state given; its cache as after C8. -/
def ready (x : LifecycleState) : State :=
  { State.reset with
    configured := true
    state := stateCode x
    params := { Config.defaultParams with exposeEngine := true }
    cache := { zeroCache with
      config := 0x08, enAa := 0x01, enRxaddr := 0x01, setupAw := 0x03, rxAddrP0 := ⟨0xE7, 0xE7, 0xE7, 0xE7, 0xE7⟩ } }

/-- The status read is outstanding. -/
def reading (x : LifecycleState) : State :=
  { ready x with busy := true, cs := true, txBuf := ⟨0x17, 0, 0, 0, 0, 0⟩, txLen := 1, rxLen := 2,
                 port := [.busRequest ⟨[0x17], 2⟩, .setCS true] }

/-- E6 and E7: the wire bytes of a read are its command byte and then the parameter FILL_BYTE, 0xFF or another (R18). -/
theorem test_clockedOut : clockedOut (reading .statusReading) = [0x17, 0xFF] ∧
    after (exec (.beginRead 0x0A 5) (ready .sleep)) (fun t => clockedOut t == [0x0A, 0xFF, 0xFF, 0xFF, 0xFF, 0xFF]) = true ∧
    clockedOut { reading .statusReading with params := { Config.defaultParams with fillByte := 0x5A } } = [0x17, 0x5A] := by
  decide

/-- R5, R122 and R202: other opcodes give other command bytes, and a LEGAL_AW without 4 refuses the width 4. -/
theorem test_literals_are_parameters :
    after (exec .drive { ready .externalInterrupt with params := { Config.defaultParams with opRead := 0x80 } }) (fun t =>
      t.port == [.busRequest ⟨[0x97], 2⟩, .setCS true]) = true ∧
    after (exec .drive { ready .configure with ready := true, params := { Config.defaultParams with opWrite := 0x40 } }) (fun t =>
      t.port == [.busRequest ⟨[0x41, 0x01], 0⟩, .setCS true]) = true ∧
    after (exec (.configure 4 pipesC9) { State.reset with params := { Config.defaultParams with legalAw := [3, 5] } }) (fun t =>
      t.result == some .invalidAddressWidth) = true := by decide

/-! ## One step of each instruction -/

/-- C9: both masks 0x3F, the low bytes of pipes 2 to 5, CRC enabled, width code 3. -/
theorem test_configure_builds : after (exec (.configure 5 pipesC9) State.reset) (fun t =>
    t.result == some .ok && t.cache.enAa == 0x3F && t.cache.enRxaddr == 0x3F && t.cache.setupAw == 0x03 &&
      t.cache.config == 0x08 && [t.cache.rxAddrP2, t.cache.rxAddrP3, t.cache.rxAddrP4, t.cache.rxAddrP5] ==
        [0xC3, 0xC4, 0xC5, 0xC6] && t.pipe == pipesC9) = true := by decide

/-- C4, C5 and C17: width 3 compares the indices 1 and 2 alone, width 4 refuses and clears the bundle, `ce` stays. -/
theorem test_configure_width :
    after (exec (.configure 3 pipesC4) { ready .idle with ce := true, irqPending := true }) (fun t =>
      t.result == some .ok && t.cache.enAa == 0x04 && t.cache.rxAddrP1 == ⟨0x11, 0x22, 0x33, 0, 0⟩ &&
        t.cache.rxAddrP2 == 0x99 && t.state == 0 && !t.irqPending && t.ce) = true ∧
    after (exec (.configure 4 pipesC4) (ready .idle)) (fun t =>
      t.result == some .invalidP2P5Address && t.toBundle == zeroBundle) = true := by decide

/-- Q2, Q5, Q7 and Q8: deadline and frame of power-on, the settle time, the first configure frame, leaving Configure. -/
theorem test_drive_startup :
    after (exec .drive { ready .powerOff with powerOnReq := true }) (fun t =>
      !t.powerOnReq && t.deadline == 100 && t.cache.config == 0x3B && t.state == 1 &&
        t.port == [.busRequest ⟨[0x20, 0x3B], 0⟩, .setCS true]) = true ∧
    after (exec .drive { ready .moduleStartup with ready := true, deadline := 100, now := 99 }) (·.state == 1) = true ∧
    after (exec .drive { ready .moduleStartup with ready := true, deadline := 100, now := 100 }) (·.state == 2) = true ∧
    after (exec .drive { ready .configure with ready := true }) (fun t =>
      t.port == [.busRequest ⟨[0x21, 0x01], 0⟩, .setCS true] && t.cfgStep == 1 && t.state == 2 && t.driving) = true ∧
    after (exec .drive { ready .configure with ready := true, cfgStep := 11 }) (fun t =>
      t.port == [] && t.cfgStep == 0 && t.state == 3 && t.result == some .ok) = true := by decide

/-- Q9, Q10, Q11, Q14, Q15 and Q12: wake, interrupt, the status read, a short response, the decode, a state out of range. -/
theorem test_drive_running :
    after (exec .drive { ready .sleep with wakeReq := true }) (fun t => !t.wakeReq && t.ce && t.state == 4) = true ∧
    after (exec .drive { ready .idle with irqPending := true, wakeReq := true, sleepReq := true }) (fun t =>
      !t.irqPending && t.wakeReq && t.sleepReq && t.state == 5) = true ∧
    after (exec .drive (ready .externalInterrupt)) (fun t =>
      t.port == [.busRequest ⟨[0x17], 2⟩, .setCS true] && t.rxLen == 2 && t.state == 6) = true ∧
    after (exec .drive { ready .statusReading with ready := true, rxCount := 1, rxBuf := ⟨0x0E, 0, 0, 0, 0, 0⟩ }) (fun t =>
      t.faults.shortResponse && t.state == 6 && t.cache.status == 0 && t.result == some .ok) = true ∧
    after (exec .drive { ready .statusReading with
        ready := true, rxCount := 2, rxBuf := ⟨0x40, 0x02, 0, 0, 0, 0⟩,
        params := { Config.defaultParams with nextAfterStatus := ⟨[⟨0x40, 0x40, 0, 0, .receiving⟩], .receive⟩ } }) (fun t =>
      t.cache.status == 0x40 && t.cache.fifoStatus == 0x02 && t.state == 8) = true ∧
    nextOf (exec .drive { ready .powerOff with state := 12, powerOnReq := true }) =
      some { ready .powerOff with state := 12, powerOnReq := true, result := some .ok } := by decide

/-- H2, with R341 to R343: each request sets its own flag and no other. -/
theorem test_requests :
    [Instr.reqPowerOn, .reqWake, .reqSleep, .notifyIrq].map (fun i =>
      (nextOf (exec i (ready .idle))).map (fun t => [t.powerOnReq, t.wakeReq, t.sleepReq, t.irqPending])) =
    [some [true, false, false, false], some [false, true, false, false], some [false, false, true, false],
      some [false, false, false, true]] := by decide

/-- H1. -/
theorem test_unconfigured : [Instr.reqPowerOn, .reqWake, .reqSleep, .notifyIrq, .notifyDone []].map (fun i =>
      nextOf (exec i State.reset)) =
    List.replicate 5 (some { State.reset with result := some .argumentError }) := by decide

/-- H5. -/
theorem test_notifyDone : after (exec (.notifyDone [0x0E, 0x01]) (reading .statusReading)) (fun t =>
    t.rxBuf == ⟨0x0E, 0x01, 0, 0, 0, 0⟩ && t.rxCount == 2 && t.ready && !t.busy && !t.cs) = true := by decide

/-- H3 and H4. -/
theorem test_notifyDone_refused :
    after (exec (.notifyDone [0x0E, 0x01, 0x00]) (reading .statusReading)) (fun t =>
      t.faults.pvOverlength && t.busy && t.result == some .protocolViolation) = true ∧
    after (exec (.notifyDone []) (ready .idle)) (fun t => t.faults.pvSpuriousDone && !t.ready) = true := by decide

/-- The instruction sends one frame, the one given, and returns OK. -/
def sent (i : Instr) (f : Frame) : Bool :=
  after (exec i (ready .sleep)) fun t =>
    t.port == [.busRequest f, .setCS true] && t.txLen == f.tx.length && t.rxLen == f.rxLen && t.result == some .ok

/-- E1, E2 and E3. -/
theorem test_writes : sent (.wRegister 0x00 [0x3B]) ⟨[0x20, 0x3B], 0⟩ = true ∧
    sent (.beginWrite 0x0A [0xE7, 0xE6, 0xE5, 0xE4, 0xE3]) ⟨[0x2A, 0xE7, 0xE6, 0xE5, 0xE4, 0xE3], 0⟩ = true ∧
    sent (.beginWrite 0x1F []) ⟨[0x3F], 0⟩ = true := by decide

/-- E6, E7 and E8. -/
theorem test_reads : sent (.rRegister 0x17 1) ⟨[0x17], 2⟩ = true ∧ sent (.beginRead 0x0A 5) ⟨[0x0A], 6⟩ = true ∧
    sent (.beginRead 0x00 0) ⟨[0x00], 1⟩ = true := by decide

/-- E10. -/
theorem test_flushes : sent .flushTx ⟨[0xE1], 0⟩ = true ∧ sent .flushRx ⟨[0xE2], 0⟩ = true ∧
    sent (.beginCommand 0xE1) ⟨[0xE1], 0⟩ = true ∧ sent (.beginCommand 0xE2) ⟨[0xE2], 0⟩ = true := by decide

/-- E4, E5, E9 and E11: ArgumentError and nothing else. -/
theorem test_operands_refused : [Instr.beginWrite 0x20 [0x00], .beginWrite 0x0B [0, 0, 0, 0, 0, 0], .beginRead 0xFF 1,
      .beginCommand 0xFF, .beginCommand 0xE3].map (fun i => nextOf (exec i (ready .sleep))) =
    List.replicate 5 (some { ready .sleep with result := some .argumentError }) := by decide

/-- E12: an overlapping begin. -/
theorem test_overlap : nextOf (exec (.beginWrite 0x01 [0x3F]) (reading .sleep)) =
    some { reading .sleep with faults := { noFaults with pvOverlap := true }, result := some .protocolViolation } := by decide

/-- H7. -/
theorem test_reserved : [Instr.reservedHop7, .reservedHopB, .reservedHopC, .reservedHopD, .reservedHopE, .reservedHopF].map
      (fun i => nextOf (exec i (ready .idle))) =
    List.replicate 6 (some { ready .idle with result := some .argumentError }) := by decide

/-! ## The step and the opcode table's words -/

/-- Every row's word is decoded to its row's instruction; 0x00 to 0x0F are host operation codes (log entry 6). -/
theorem test_table_words : [0x18, 0x20, 0xE1, 0xE2].map (decodeTableWord 8) =
      [some (.rRegister 0x18 0), some (.wRegister 0 []), some .flushTx, some .flushRx] ∧
    [0x1, 0x2, 0x3, 0x4, 0x5, 0x6, 0x7].map (decodeTableWord 4) = [some .drive, some .reqPowerOn, some .reqWake,
      some .reqSleep, some .notifyIrq, some (.notifyDone []), some .reservedHop7] ∧
    [0x8, 0x9, 0xA, 0xB, 0xC, 0xD, 0xE, 0xF].map (decodeTableWord 8) = [some (.beginWrite 0 []), some (.beginRead 0 0),
      some (.beginCommand 0), some .reservedHopB, some .reservedHopC, some .reservedHopD, some .reservedHopE,
      some .reservedHopF] := by decide

/-- From reset, CONFIGURE is the entry point (R101): submitted, it is what the next step runs. -/
theorem test_step_configure : after (step { State.reset with agenda := [.call (encode (.configure 5 pipesC9))] }) (fun t =>
    t.configured && t.result == some .ok && t.agenda == []) = true := by decide

/-! ## Witnesses: the hypotheses of each statement, met together, at the ends of their ranges -/

theorem witness_ResetIsPowerOnColumn : ∃ s, s = State.reset := ⟨_, rfl⟩

theorem witness_StepRunsDecodedSubmission : decode (.host [0x01]) = .ok .drive ∧
    (∃ s : State, s.agenda = .call (.host [0x01]) :: [] ∧ s.driving = false) ∧
    ∃ s : State, s.agenda = .atYield (.host [0x01]) :: [.powerOn] ∧ s.driving = true :=
  ⟨by decide, ⟨{ State.reset with agenda := [.call (.host [0x01])] }, by decide⟩,
    ⟨{ State.reset with agenda := [.atYield (.host [0x01]), .powerOn], driving := true }, by decide⟩⟩

theorem witness_StepContinuesDrive : (∃ s : State, s.driving = true ∧ s.agenda = []) ∧
    ∃ s : State, s.driving = true ∧ s.agenda = .call (.host [0x04]) :: [] :=
  ⟨⟨{ State.reset with driving := true }, by decide⟩,
    ⟨{ State.reset with driving := true, agenda := [.call (.host [0x04])] }, by decide⟩⟩

/-- Time standing still, one millisecond back, power-on, and nothing to do. -/
theorem witness_StepEnvironment :
    (∃ s : State, s.agenda = .time 7 :: [] ∧ s.now.toNat ≤ (7 : U64).toNat ∧ s.now = 7) ∧
    (∃ s : State, s.agenda = .time 6 :: [] ∧ (6 : U64).toNat < s.now.toNat ∧ s.now = 7) ∧
    (∃ s : State, s.agenda = .powerOn :: []) ∧ ∃ s : State, s.agenda = [] ∧ s.driving = false :=
  ⟨⟨{ State.reset with agenda := [.time 7], now := 7 }, by decide⟩,
    ⟨{ State.reset with agenda := [.time 6], now := 7 }, by decide⟩, ⟨{ State.reset with agenda := [.powerOn] }, rfl⟩,
    ⟨State.reset, by decide⟩⟩

theorem witness_FetchWordRuns : decodeTableWord 8 0x1F = some (.rRegister 0x1F 0) ∧ decodeTableWord 4 0xF = some .reservedHopF := by
  decide

/-- The ends of the five ranges of command bytes. -/
theorem witness_CommandByteDecoder : [0x00, 0x1F, 0x20, 0x3F, 0x40, 0xE0, 0xE1, 0xE2, 0xE3, 0xFF].map (fun b : Byte => b.toNat / 32) =
    [0, 0, 1, 1, 2, 7, 7, 7, 7, 7] := by decide

theorem witness_DecodeEncode : WellFormed (.rRegister 31 5) = true ∧ WellFormed (.wRegister 31 [1, 2, 3, 4, 5]) = true ∧
    WellFormed (.notifyDone (List.replicate 255 0)) = true ∧ WellFormed (.beginRead 255 255) = true :=
  ⟨by decide, by decide, by simp only [WellFormed, fitsCount, List.length_replicate]; decide, by decide⟩

theorem witness_EmittedFramesAreOfTheFourForms : ∃ t, exec (.beginWrite 0x1F [0xE7, 0xE7, 0xE7, 0xE7, 0xE7]) (ready .sleep) = .next t ∧
    t.port = .busRequest ⟨[0x3F, 0xE7, 0xE7, 0xE7, 0xE7, 0xE7], 0⟩ :: .setCS true :: (ready .sleep).port :=
  ⟨_, rfl, by decide⟩

theorem witness_DriveFramesAreInScope : ∃ t, exec .drive (ready .externalInterrupt) = .next t ∧
    t.port = .busRequest ⟨[0x17], 2⟩ :: .setCS true :: (ready .externalInterrupt).port := ⟨_, rfl, by decide⟩

theorem witness_WidthCodes : ∀ w ∈ [(3 : Byte), 4, 5], w = 3 ∨ w = 4 ∨ w = 5 := by decide

/-- A read of one byte: position 0 is the frame's, position 1 the filler's, both stored; and it can be begun. -/
theorem witness_ExchangeOfAFrame : (([0x0E, 0x01] : List Byte).length = exchangeLength ⟨[0x17], 2⟩ ∧
      1 < exchangeLength ⟨[0x17], 2⟩ ∧ ¬ 1 < ([0x17] : List Byte).length ∧ 0 < ([0x17] : List Byte).length) ∧
    ∃ t, Begun ⟨[0x17], 2⟩ (ready .sleep) t := ⟨by decide, _, beginFrame_begun ⟨[0x17], 2⟩ _ (by decide)⟩

theorem witness_ResponseParse : 0 ≤ Config.bufCap ∧ 1 ≤ Config.bufCap ∧ 1 ≤ 6 ∧ 6 ≤ Config.bufCap ∧ 4 < 6 - 1 := by decide

/-- All six pipes at width 5 (C9), two at width 3 (C4). -/
theorem witness_ConfigureBuildsTheCache : State.reset.busy = false ∧
    (∀ aw ∈ [(3 : Byte), 4, 5], aw ∈ State.reset.params.legalAw ∧ (aw = 3 ∨ aw = 4 ∨ aw = 5)) ∧ PipesAgree State.reset.params 5 pipesC9 ∧
    PipesAgree State.reset.params 3 pipesC4 :=
  ⟨rfl, by decide, (allPass_iff _ _ _).mp (by decide), (allPass_iff _ _ _).mp (by decide)⟩

/-- The widths next to the legal ones. -/
theorem witness_ConfigureRefusesWidth : (ready .idle).busy = false ∧ ∀ aw ∈ [(0 : Byte), 2, 6, 255], aw ∉ (ready .idle).params.legalAw := by
  decide

/-- C5: the pipes of C4 differ at index 3, which width 4 compares. -/
theorem witness_ConfigureRefusesPipes : (ready .idle).busy = false ∧ 4 ∈ (ready .idle).params.legalAw ∧
    ¬ PipesAgree (ready .idle).params 4 pipesC4 :=
  ⟨rfl, by decide, fun h => absurd ((allPass_iff _ _ _).mpr h) (by decide)⟩

theorem witness_ConfigureRefusedWhileBusy : (reading .statusReading).busy = true := rfl

theorem witness_ConfigureIsIdempotent : (ready .idle).busy = false ∧
    ∃ t, exec (.configure 5 pipesC9) (ready .idle) = .next t ∧ t.result = some .ok := ⟨rfl, _, rfl, by decide⟩

/-- Addresses 0 and 0x1F, no bytes and five. -/
theorem witness_WriteSendsItsFrame : (ready .sleep).params.exposeEngine = true ∧ (ready .sleep).configured = true ∧
    (ready .sleep).busy = false ∧ (0 : Byte).toNat ≤ 0x1F ∧ (0x1F : Byte).toNat ≤ 0x1F ∧ ([] : List Byte).length ≤ 5 ∧
    ([1, 2, 3, 4, 5] : List Byte).length ≤ 5 := by decide

theorem witness_ReadSendsItsFrame : (ready .sleep).params.exposeEngine = true ∧ (ready .sleep).configured = true ∧
    (ready .sleep).busy = false ∧ (0x1F : Byte).toNat ≤ 0x1F ∧ (0 : Byte).toNat ≤ 5 ∧ (5 : Byte).toNat ≤ 5 := by decide

theorem witness_FlushSendsItsByte : (ready .sleep).params.exposeEngine = true ∧ (ready .sleep).configured = true ∧
    (ready .sleep).busy = false ∧ ∀ cmd ∈ [(0xE1 : Byte), 0xE2], cmd = 0xE1 ∨ cmd = 0xE2 := by decide

theorem witness_OverlapIsRefused : (reading .sleep).params.exposeEngine = true ∧ (reading .sleep).configured = true ∧
    (reading .sleep).busy = true ∧ ∀ i ∈ [Instr.rRegister 31 5, .wRegister 31 [1, 2, 3, 4, 5], .flushTx, .flushRx,
      .beginWrite 0x1F [], .beginRead 0x1F 5, .beginCommand 0xE2], isEngineOperation i = true ∧ operandsInRange i = true := by
  decide

theorem witness_OperandsOutOfRangeAreRefused : ∀ i ∈ [Instr.rRegister 0 6, .wRegister 0 [1, 2, 3, 4, 5, 6], .beginWrite 0x20 [],
      .beginWrite 0 [1, 2, 3, 4, 5, 6], .beginRead 0x20 0, .beginRead 0 6, .beginCommand 0xE3],
    isEngineOperation i = true ∧ operandsInRange i = false := by decide

theorem witness_ReservedAndDisabledOperationsAreRefused :
    (isEngineOperation (.beginCommand 0xE1) = true ∧ State.reset.params.exposeEngine = false) ∧
    ∃ s : State, s.params.includeSequencer = false ∧ s.configured = true :=
  ⟨by decide, ⟨{ ready .idle with params := { Config.defaultParams with includeSequencer := false } }, by decide⟩⟩

theorem witness_UnconfiguredOperationsAreRefused : State.reset.configured = false ∧ (Instr.drive = .drive → State.reset.driving = false) ∧
    ∀ i ∈ [Instr.drive, .reqPowerOn, .notifyIrq, .notifyDone [], .beginWrite 0x20 [], .flushTx, .reservedHopF],
      isConfigure i = false := by decide

theorem witness_OutstandingFrameIsStable : (reading .statusReading).busy = true ∧ isNotifyDone .drive = false ∧
    ∃ t, exec .drive (reading .statusReading) = .next t := ⟨rfl, rfl, _, rfl⟩

/-- Parked, refused while a host frame is outstanding, and powered on with a saturating deadline (Q1, Q4 and Q3). -/
theorem witness_PowerOffHandler :
    (DriveReady (ready .powerOff) ∧ (ready .powerOff).state = stateCode .powerOff ∧ (ready .powerOff).powerOnReq = false) ∧
    (∃ s : State, DriveReady s ∧ s.state = stateCode .powerOff ∧ s.powerOnReq = true ∧ s.busy = true) ∧
    ∃ s : State, DriveReady s ∧ s.state = stateCode .powerOff ∧ s.powerOnReq = true ∧ s.busy = false ∧ s.now = -50 ∧
      (0x3B : Byte) = (s.cache.config &&& ~~~0x73#8) ||| (0x03#8 ||| (s.params.powerOnIrqMask.zeroExtend 8 <<< 4)) ∧
      (-1 : U64).toNat = min (s.now.toNat + s.params.startupSettleMs.toNat) (2 ^ 64 - 1) :=
  ⟨⟨⟨rfl, rfl, rfl⟩, rfl, rfl⟩,
    ⟨{ reading .powerOff with powerOnReq := true }, ⟨rfl, rfl, rfl⟩, rfl, rfl, rfl⟩,
    ⟨{ ready .powerOff with powerOnReq := true, now := -50 }, ⟨rfl, rfl, rfl⟩, by decide⟩⟩

/-- The deadline reached in the millisecond, one millisecond early, and no completion (Q5 and Q6). -/
theorem witness_ModuleStartupHandler :
    (∃ s : State, DriveReady s ∧ s.state = stateCode .moduleStartup ∧ s.ready = true ∧ s.deadline.toNat ≤ s.now.toNat ∧
      s.now = 100) ∧
    (∃ s : State, DriveReady s ∧ s.state = stateCode .moduleStartup ∧ s.ready = true ∧ s.now.toNat < s.deadline.toNat) ∧
    ∃ s : State, DriveReady s ∧ s.state = stateCode .moduleStartup ∧ s.ready = false :=
  ⟨⟨{ ready .moduleStartup with ready := true, deadline := 100, now := 100 }, ⟨rfl, rfl, rfl⟩, by decide⟩,
    ⟨{ ready .moduleStartup with ready := true, deadline := 100, now := 99 }, ⟨rfl, rfl, rfl⟩, by decide⟩,
    ⟨ready .moduleStartup, ⟨rfl, rfl, rfl⟩, by decide⟩⟩

/-- Steps 0, 10 and 11 of the configure sequence, the last two of a DRIVE at a yield point. -/
theorem witness_ConfigureHandler :
    (∃ s : State, s.configured = true ∧ s.params.includeSequencer = true ∧ s.state = stateCode .configure ∧ s.ready = false) ∧
    (∃ s : State, s.configured = true ∧ s.params.includeSequencer = true ∧ s.state = stateCode .configure ∧ s.ready = true ∧
      s.driving = true ∧ s.cfgStep = 11) ∧
    (∃ s : State, s.configured = true ∧ s.params.includeSequencer = true ∧ s.state = stateCode .configure ∧ s.ready = true ∧
      s.busy = false ∧ s.cfgStep.val = 0 ∧ (configureSequence s.params s.cache)[0]? = some ⟨[0x21, 0x01], 0⟩) ∧
    ∃ s : State, s.configured = true ∧ s.params.includeSequencer = true ∧ s.state = stateCode .configure ∧ s.ready = true ∧
      s.busy = false ∧ s.driving = true ∧ s.cfgStep.val = 10 ∧ (configureSequence s.params s.cache)[10]? = some ⟨[0xE2], 0⟩ :=
  ⟨⟨ready .configure, by decide⟩, ⟨{ ready .configure with ready := true, driving := true, cfgStep := 11 }, by decide⟩,
    ⟨{ ready .configure with ready := true }, by decide⟩,
    ⟨{ ready .configure with ready := true, driving := true, cfgStep := 10 }, by decide⟩⟩

theorem engineInv_ready (x : LifecycleState) (r : Bool) : EngineInv { ready x with ready := r } := by
  constructor <;> cases x <;> cases r <;> decide

theorem witness_ConfigureHandlerNeverFails : ∃ s t : State, EngineInv s ∧ s.configured = true ∧
    s.params.includeSequencer = true ∧ s.state = stateCode .configure ∧ s.ready = true ∧ exec .drive s = .next t :=
  ⟨{ ready .configure with ready := true }, _, engineInv_ready _ true, rfl, rfl, rfl, rfl, rfl⟩

theorem witness_SleepAndIdleHandlers :
    (∃ s : State, DriveReady s ∧ s.state = stateCode .sleep ∧ s.wakeReq = true ∧ s.ce = true) ∧
    (DriveReady (ready .sleep) ∧ (ready .sleep).state = stateCode .sleep ∧ (ready .sleep).wakeReq = false) ∧
    (∃ s : State, DriveReady s ∧ s.state = stateCode .idle ∧ s.irqPending = true) ∧
    (DriveReady (ready .idle) ∧ (ready .idle).state = stateCode .idle ∧ (ready .idle).irqPending = false) :=
  ⟨⟨{ ready .sleep with wakeReq := true, ce := true }, ⟨rfl, rfl, rfl⟩, by decide⟩, ⟨⟨rfl, rfl, rfl⟩, by decide⟩,
    ⟨{ ready .idle with irqPending := true }, ⟨rfl, rfl, rfl⟩, by decide⟩, ⟨⟨rfl, rfl, rfl⟩, by decide⟩⟩

theorem witness_ExternalInterruptHandler :
    (DriveReady (reading .externalInterrupt) ∧ (reading .externalInterrupt).state = stateCode .externalInterrupt ∧
      (reading .externalInterrupt).busy = true) ∧
    (DriveReady (ready .externalInterrupt) ∧ (ready .externalInterrupt).state = stateCode .externalInterrupt ∧
      (ready .externalInterrupt).busy = false) := ⟨⟨⟨rfl, rfl, rfl⟩, rfl, rfl⟩, ⟨⟨rfl, rfl, rfl⟩, rfl, rfl⟩⟩

/-- No completion, a response of one byte and one of two. -/
theorem witness_StatusReadingHandler :
    (DriveReady (reading .statusReading) ∧ (reading .statusReading).state = stateCode .statusReading ∧
      (reading .statusReading).ready = false) ∧
    (∃ s : State, DriveReady s ∧ s.state = stateCode .statusReading ∧ s.ready = true ∧ s.rxCount < 2 ∧ s.rxCount = 1) ∧
    ∃ s : State, DriveReady s ∧ s.state = stateCode .statusReading ∧ s.ready = true ∧ 2 ≤ s.rxCount ∧ s.rxCount = 2 :=
  ⟨⟨⟨rfl, rfl, rfl⟩, rfl, rfl⟩, ⟨{ ready .statusReading with ready := true, rxCount := 1 }, ⟨rfl, rfl, rfl⟩, by decide⟩,
    ⟨{ ready .statusReading with ready := true, rxCount := 2 }, ⟨rfl, rfl, rfl⟩, by decide⟩⟩

/-- The first and the last of the reserved states and of the codes without one. -/
theorem witness_ReservedStatesAreNoOps : ∀ code ∈ [(7 : BitVec 4), 11, 12, 15],
    DriveReady { ready .idle with state := code } ∧ 7 ≤ code.toNat := by
  intro code hc
  exact ⟨⟨rfl, rfl, rfl⟩, by revert code; decide⟩

theorem witness_DriveFollowsTheTransitionGraph : ∃ t, exec .drive { ready .sleep with wakeReq := true } = .next t ∧
    t.state ≠ (ready .sleep).state := ⟨_, rfl, by decide⟩

/-- A rule that fits and one that does not. -/
theorem witness_NextAfterStatusReadsItsTable :
    ((0x4E : Byte) &&& 0x40 = 0x40 ∧ (0x11 : Byte) &&& 0 = 0) ∧ ¬ ((0x0E : Byte) &&& 0x40 = 0x40 ∧ (0x11 : Byte) &&& 0 = 0) := by
  decide

/-- The buffers differ above `rxCount` alone. -/
theorem witness_StaleReceiveBytesAreNotRead : ∃ (s : State) (b : Six Byte), b ≠ s.rxBuf ∧ s.state = stateCode .statusReading ∧
    (bufferBytes b).take s.rxCount = (bufferBytes s.rxBuf).take s.rxCount :=
  ⟨{ ready .statusReading with ready := true, rxCount := 2 }, ⟨0, 0, 1, 2, 3, 4⟩, by decide⟩

theorem witness_RequestsSetTheirFlag : (ready .idle).configured = true ∧ State.reset.configured = false := by decide

/-- A completion of all the bytes asked for, one of none, an unconfigured block, no frame, one byte too many. -/
theorem witness_CompletionEndsTheFrame : ((reading .statusReading).configured = true ∧ (reading .statusReading).busy = true ∧
    ([0x0E, 0x01] : List Byte).length ≤ (reading .statusReading).rxLen ∧ ([] : List Byte).length ≤ (reading .statusReading).rxLen ∧
    (reading .statusReading).rxLen ≤ Config.bufCap) ∧ State.reset.configured = false ∧
    ((ready .idle).configured = true ∧ (ready .idle).busy = false) ∧
    (reading .statusReading).rxLen < ([1, 2, 3] : List Byte).length := by decide

/-- Both results are reached. -/
theorem witness_ErrorsArePrecise :
    (∃ t, exec (.configure 5 pipesC9) (reading .idle) = .next t ∧ t.result = some .protocolViolation) ∧
    ∃ t, exec .drive State.reset = .next t ∧ t.result = some .argumentError := ⟨⟨_, rfl, rfl⟩, ⟨_, rfl, rfl⟩⟩

theorem witness_ConfigErrorsClearTheSlate :
    (∃ t, exec (.configure 6 pipesC9) (ready .idle) = .next t ∧ t.result = some .invalidAddressWidth) ∧
    ∃ t, exec (.configure 4 pipesC4) (ready .idle) = .next t ∧ t.result = some .invalidP2P5Address :=
  ⟨⟨_, rfl, by decide⟩, ⟨_, rfl, by decide⟩⟩

/-- DRIVE changes CONFIG in PowerOff, and STATUS in StatusReading. -/
theorem witness_CacheWriters : isConfigure .drive = false ∧
    (∃ s t : State, exec .drive s = .next t ∧ t.cache.config ≠ s.cache.config) ∧
    ∃ s t : State, exec .drive s = .next t ∧ t.cache.status ≠ s.cache.status :=
  ⟨rfl, ⟨{ ready .powerOff with powerOnReq := true }, _, rfl, by decide⟩,
    ⟨{ ready .statusReading with ready := true, rxCount := 2, rxBuf := ⟨0x0E, 0x01, 0, 0, 0, 0⟩ }, _, rfl, by decide⟩⟩

theorem witness_PipeRecordsAreReadOnly : isConfigure .drive = false ∧ ∃ t, exec .drive (ready .sleep) = .next t := ⟨rfl, _, rfl⟩

/-- Each flag but `sleepReq` is consumed by a DRIVE, and CONFIGURE runs with a flag set. -/
theorem witness_RequestFlagConsumers : isConfigure .drive = false ∧
    (∃ s t : State, isConfigure (.configure 6 pipesC9) = true ∧ s.busy = false ∧ s.sleepReq = true ∧
      exec (.configure 6 pipesC9) s = .next t) ∧
    (∃ s t : State, exec .drive s = .next t ∧ s.powerOnReq = true ∧ t.powerOnReq = false) ∧
    (∃ s t : State, exec .drive s = .next t ∧ s.wakeReq = true ∧ t.wakeReq = false) ∧
    (∃ s t : State, exec .drive s = .next t ∧ s.irqPending = true ∧ t.irqPending = false) ∧
    ∃ s t : State, exec .drive s = .next t ∧ s.sleepReq = true :=
  ⟨rfl, ⟨{ ready .idle with sleepReq := true }, _, rfl, rfl, rfl, rfl⟩, ⟨{ ready .powerOff with powerOnReq := true }, _, rfl, rfl, by decide⟩,
    ⟨{ ready .sleep with wakeReq := true }, _, rfl, rfl, by decide⟩,
    ⟨{ ready .idle with irqPending := true }, _, rfl, rfl, by decide⟩,
    ⟨{ ready .idle with sleepReq := true }, _, rfl, rfl⟩⟩

theorem witness_SequencerStateWriters : isConfigure .reqWake = false ∧ isConfigure .drive = false ∧ Instr.reqWake ≠ .drive ∧
    (∃ t, exec .reqWake (ready .sleep) = .next t) ∧
    ∃ s t : State, exec .drive s = .next t ∧ t.deadline ≠ s.deadline :=
  ⟨rfl, rfl, by decide, ⟨_, rfl⟩, ⟨{ ready .powerOff with powerOnReq := true }, _, rfl, by decide⟩⟩

theorem witness_FaultsAreNeverRemoved : ∃ s t : State, exec (.configure 5 pipesC9) s = .next t ∧
    hasFault s.faults .shortResponse = true :=
  ⟨{ ready .idle with faults := { noFaults with shortResponse := true } }, _, rfl, rfl⟩

theorem witness_CleanRunsHaveNoViolation : ∃ t, exec .drive (ready .idle) = .next t ∧ Clean t := ⟨_, rfl, by unfold Clean; decide⟩

theorem witness_ChipEnableIsOnlyRaised : (∃ s t : State, exec (.configure 6 pipesC9) s = .next t ∧ s.ce = true) ∧
    ∃ s t : State, exec .drive s = .next t ∧ s.ce = false ∧ t.ce = true :=
  ⟨⟨{ ready .idle with ce := true }, _, rfl, rfl⟩, ⟨{ ready .sleep with wakeReq := true }, _, rfl, rfl, by decide⟩⟩

theorem witness_StepKeepsParametersAndTime : ∃ t, step { ready .idle with agenda := [.time 1] } = .next t := ⟨_, rfl⟩

theorem witness_StepKeepsStateInRange : ∃ t, step { ready .sleep with wakeReq := true, agenda := [.call (.host [0x01])] } = .next t ∧
    (ready .sleep).state.toNat ≤ 11 := ⟨_, rfl, by decide⟩

theorem witness_StepKeepsEngineInvariant : ∃ s t : State, EngineInv s ∧ s.agenda = [.call (.host [0x01])] ∧ step s = .next t ∧
    t.busy = true := by
  have h := engineInv_ready .externalInterrupt false
  exact ⟨{ ready .externalInterrupt with agenda := [.call (.host [0x01])] }, _,
    ⟨h.1, h.2, h.3, h.4, h.5, h.6, h.7, h.8⟩, rfl, rfl, by decide⟩

/-- A state of the cache's invariant that is configured: the one CONFIGURE of C9 leaves. -/
theorem witness_StepKeepsCacheInvariant : ∃ s t : State, CacheInv s ∧ s.configured = true ∧ step s = .next t ∧ t.powerOnReq = true := by
  refine ⟨{ State.reset with
      configured := true, pipe := pipesC9, cache := builtCache State.reset.params 5 pipesC9,
      agenda := [.call (.host [0x02])] }, _, ⟨?_, ?_, ?_, ?_, ?_, ?_, ?_, ?_⟩, rfl, rfl, rfl⟩ <;>
    first | decide | (unfold CodableWidths; decide)

/-- The deadline's own millisecond. -/
theorem witness_ThreeDrivesReachSleep : ∃ (s : State) (ms : U64), DriveReady s ∧ s.busy = false ∧ s.state = stateCode .powerOff ∧
    s.agenda = [.call (encode .reqPowerOn), .call (encode .drive), .call (encode (.notifyDone [])), .time ms,
        .call (encode .drive), .call (encode .drive)] ++
      (List.replicate 11 [Event.atYield (encode (.notifyDone [])), Event.atYield (encode .drive)]).flatten ∧
    s.now.toNat ≤ ms.toNat ∧ min (s.now.toNat + s.params.startupSettleMs.toNat) (2 ^ 64 - 1) ≤ ms.toNat ∧ ms = 100 :=
  ⟨{ ready .powerOff with agenda := [.call (encode .reqPowerOn), .call (encode .drive), .call (encode (.notifyDone [])), .time 100,
        .call (encode .drive), .call (encode .drive)] ++
      (List.replicate 11 [Event.atYield (encode (.notifyDone [])), Event.atYield (encode .drive)]).flatten }, 100,
    ⟨rfl, rfl, rfl⟩, rfl, rfl, rfl, by decide, by decide, rfl⟩

theorem witness_ResetHoldsTheDefaultParameters : ∃ p, p = State.reset.params := ⟨_, rfl⟩

end Sys2Proof.Tests
end

section
/-! The scope file's statements: the parameters with their defaults, the table of NEXT_AFTER_STATUS, and what every step keeps
of the parameters and the time. -/

namespace Sys2Proof.Machine

/-! ## What a step keeps of the parameters and the time -/

@[simp] theorem poweredOn_params (s : State) : (poweredOn s).params = s.params := rfl

@[simp] theorem poweredOn_now (s : State) : (poweredOn s).now = s.now := rfl

@[simp] theorem powerOnReset_params (s : State) : (powerOnReset s).params = s.params := rfl

@[simp] theorem powerOnReset_now (s : State) : (powerOnReset s).now = s.now := rfl

/-- R29: no instruction writes the parameters. -/
theorem effect_keeps_params {i : Instr} {s t : State} (h : Effect i s t) : t.params = s.params := by cases h <;> simp

/-- R424: time is an input, which no instruction moves. -/
theorem effect_keeps_now {i : Instr} {s t : State} (h : Effect i s t) : t.now = s.now := by cases h <;> simp

/-- Settles O55: an instruction keeps both fields, a time event moves the time forwards only, and power-on resets neither. -/
theorem stepKeepsParametersAndTime : Obligations.StepKeepsParametersAndTime := by
  intro s t h
  rcases step_cases h with rfl | ⟨i, a, hi⟩ | ⟨ms, a, hms, rfl⟩ | ⟨a, rfl⟩
  case inl => exact ⟨rfl, le_rfl⟩
  case inr.inl =>
    have hp := effect_keeps_params (exec_effect hi)
    have hn := effect_keeps_now (exec_effect hi)
    exact ⟨hp, (congrArg BitVec.toNat hn).ge⟩
  case inr.inr.inl => exact ⟨rfl, BitVec.le_def.mp hms⟩
  case inr.inr.inr => simp

/-! ## NEXT_AFTER_STATUS -/

/-- An empty table is the constant function. -/
@[simp] theorem nextAfterStatus_nil (other : LifecycleState) (status fifo : Byte) :
    nextAfterStatus { rules := [], otherwise := other } status fifo = other := rfl

/-- First fit: the head rule decides when the masked bytes fit it, and else the rest of the table does. -/
theorem nextAfterStatus_cons (r : StatusRule) (rules : List StatusRule) (other : LifecycleState) (status fifo : Byte) :
    nextAfterStatus { rules := r :: rules, otherwise := other } status fifo =
      if status &&& r.statusMask = r.statusValue ∧ fifo &&& r.fifoMask = r.fifoValue then r.target
      else nextAfterStatus { rules := rules, otherwise := other } status fifo := by
  by_cases hfit : status &&& r.statusMask = r.statusValue ∧ fifo &&& r.fifoMask = r.fifoValue
  · simp [nextAfterStatus, hfit]
  · simp [nextAfterStatus, hfit]

/-- R19: the default is constantly Receive. -/
theorem nextAfterStatus_default (status fifo : Byte) :
    nextAfterStatus Config.defaultParams.nextAfterStatus status fifo = .receive := nextAfterStatus_nil .receive status fifo

/-- Settles O42: the equations of the empty table and of a table's head rule. -/
theorem nextAfterStatusReadsItsTable : Obligations.NextAfterStatusReadsItsTable := by
  intro r rules other status fifo
  rw [nextAfterStatus_cons]
  exact ⟨nextAfterStatus_default status fifo, nextAfterStatus_nil other status fifo, fun hfit => if_pos hfit, fun hfit => if_neg hfit⟩

/-! ## The defaults of the parameters -/

/-- The defaults are a legal choice: the sequencer is included (R21), and each default width has a code (R167). -/
theorem legalParams_default : LegalParams Config.defaultParams := ⟨.inl rfl, fun w => (default_legalAw w).mp⟩

/-- Settles O60: after reset the parameters are `Config.defaultParams`, whose values are read off. -/
theorem resetHoldsTheDefaultParameters : Obligations.ResetHoldsTheDefaultParameters := by
  rintro _ rfl
  exact ⟨default_legalAw, rfl, rfl, rfl, rfl, rfl, rfl, rfl, nextAfterStatus_default, rfl, rfl, legalParams_default⟩

end Sys2Proof.Machine
end

section
/-! The state file's statements: who writes the cache, the pipe records, the sequencer's state and chip-enable, the range of
the state code, and the cache's invariant. -/

namespace Sys2Proof.Machine

/-! ## Fields of power-on and of the powered-on state -/

@[simp] theorem poweredOn_configured (s : State) : (poweredOn s).configured = s.configured := rfl

@[simp] theorem poweredOn_pipe (s : State) : (poweredOn s).pipe = s.pipe := rfl

@[simp] theorem poweredOn_ce (s : State) : (poweredOn s).ce = s.ce := rfl

@[simp] theorem powerOnReset_state (s : State) : (powerOnReset s).state = stateCode .powerOff := rfl

@[simp] theorem powerOnReset_toBundle (s : State) : (powerOnReset s).toBundle = zeroBundle := rfl

/-! ## Pipe records and the configured flag -/

section
variable {i : Instr} {s t : State}

/-- R31 and R44: only CONFIGURE writes `configured` and the pipe records. -/
theorem effect_keeps_configured_and_pipe (h : Effect i s t) (hc : isConfigure i = false) :
    t.configured = s.configured ∧ t.pipe = s.pipe := by
  cases h with
  | badWidth hi | badPipes hi => simp [hi] at hc
  | configured _ _ _ hi => simp [hi, isConfigure] at hc
  | _ => simp

/-! ## The cache -/

/-- R41: an instruction other than CONFIGURE keeps the cache, updates CONFIG as a DRIVE in PowerOff, or stores the two
status bytes as a DRIVE in StatusReading. -/
theorem effect_cache_cases (h : Effect i s t) (hc : isConfigure i = false) :
    t.cache = s.cache ∨
      (i = .drive ∧ s.state = stateCode .powerOff ∧
        t.cache = { s.cache with config := powerOnConfig s.params.powerOnIrqMask s.cache.config }) ∨
      (i = .drive ∧ s.state = stateCode .statusReading ∧
        t.cache = { s.cache with status := s.rxBuf.c0, fifoStatus := s.rxBuf.c1 }) := by
  cases h with
  | badWidth hi | badPipes hi => simp [hi] at hc
  | configured _ _ _ hi => simp [hi, isConfigure] at hc
  | poweredOn hi hs => exact .inr (.inl ⟨hi, hs, rfl⟩)
  | statusDecoded hi hs => exact .inr (.inr ⟨hi, hs, rfl⟩)
  | _ => left; simp

/-! ## The sequencer's state -/

/-- R47, R48 and R50: an instruction other than CONFIGURE keeps the sequencer's three fields or is DRIVE. -/
theorem effect_sequencer_cases (h : Effect i s t) (hc : isConfigure i = false) :
    i = .drive ∨ (t.state = s.state ∧ t.cfgStep = s.cfgStep ∧ t.deadline = s.deadline) := by
  cases h with
  | badWidth hi | badPipes hi => simp [hi] at hc
  | configured _ _ _ hi => simp [hi, isConfigure] at hc
  | poweredOn hi | toConfigure hi | issued _ hi | toSleep hi | woken hi | interrupted hi | statusRead hi
  | statusDecoded hi => exact .inl hi
  | _ => right; simp

/-- R50: outside CONFIGURE the deadline is written in PowerOff alone. -/
theorem effect_deadline_cases (h : Effect i s t) (hc : isConfigure i = false) :
    t.deadline = s.deadline ∨ s.state = stateCode .powerOff := by
  cases h with
  | badWidth hi | badPipes hi => simp [hi] at hc
  | configured _ _ _ hi => simp [hi, isConfigure] at hc
  | poweredOn _ hs => exact .inr hs
  | _ => left; simp

/-- R47: an instruction keeps the state code or writes the code of a lifecycle state; CONFIGURE writes that of PowerOff. -/
theorem effect_state_cases (h : Effect i s t) : t.state = s.state ∨ ∃ x, t.state = stateCode x := by
  cases h with
  | badWidth | badPipes | configured => exact .inr ⟨.powerOff, rfl⟩
  | poweredOn => exact .inr ⟨.moduleStartup, rfl⟩
  | toConfigure => exact .inr ⟨.configure, rfl⟩
  | toSleep => exact .inr ⟨.sleep, rfl⟩
  | woken => exact .inr ⟨.idle, rfl⟩
  | interrupted => exact .inr ⟨.externalInterrupt, rfl⟩
  | statusRead => exact .inr ⟨.statusReading, rfl⟩
  | statusDecoded => exact .inr ⟨nextAfterStatus s.params.nextAfterStatus s.rxBuf.c0 s.rxBuf.c1, rfl⟩
  | _ => left; simp

/-! ## Chip-enable -/

/-- R51 and R422: an instruction keeps chip-enable, or raises it as a DRIVE in Sleep. -/
theorem effect_ce_cases (h : Effect i s t) :
    t.ce = s.ce ∨ (t.ce = true ∧ i = .drive ∧ s.state = stateCode .sleep) := by
  cases h with
  | woken hi hs => exact .inr ⟨rfl, hi, hs⟩
  | _ => left; simp

end

/-! ## The writers of each field -/

/-- Settles O49: the pipe part of what an instruction other than CONFIGURE keeps. -/
theorem pipeRecordsAreReadOnly : Obligations.PipeRecordsAreReadOnly := fun _ _ _ h hc =>
  (effect_keeps_configured_and_pipe (exec_effect h) hc).2

/-- Settles O48, by the three things an instruction can do to the cache. -/
theorem cacheWriters : Obligations.CacheWriters := by
  intro i s t h hc
  rcases effect_cache_cases (exec_effect h) hc with ht | ⟨hi, hs, ht⟩ | ⟨hi, hs, ht⟩
  · simp [ht]
  · simp [ht, hi, hs]
  · simp [ht, hi, hs]

/-- Settles O51: a writer of the three fields is DRIVE, and one of the deadline runs in PowerOff. -/
theorem sequencerStateWriters : Obligations.SequencerStateWriters := by
  intro i s t h hc
  have he := exec_effect h
  exact ⟨(effect_sequencer_cases he hc).resolve_left, (effect_deadline_cases he hc).resolve_left⟩

/-- Settles O54: the kept line is neither lowered nor raised, and the raised one is DRIVE's in Sleep. -/
theorem chipEnableIsOnlyRaised : Obligations.ChipEnableIsOnlyRaised := by
  intro i s t h
  rcases effect_ce_cases (exec_effect h) with ht | ⟨ht, hd⟩
  · exact ⟨ht.trans, fun hs hraised => absurd (ht.symm.trans hraised) (by simp [hs])⟩
  · exact ⟨fun _ => ht, fun _ _ => hd⟩

/-- Settles O56: an instruction keeps the code or writes one of the twelve, and power-on writes that of PowerOff. -/
theorem stepKeepsStateInRange : Obligations.StepKeepsStateInRange := by
  intro s t h hs
  rcases step_cases h with rfl | ⟨i, a, hi⟩ | ⟨ms, a, _, rfl⟩ | ⟨a, rfl⟩
  case inl => exact hs
  case inr.inl =>
    rcases effect_state_cases (exec_effect hi) with ht | ⟨x, ht⟩ <;> rw [ht]
    · exact hs
    · exact stateCode_le x
  case inr.inr.inl => exact hs
  case inr.inr.inr => rw [powerOnReset_state]; exact stateCode_le .powerOff

/-! ## The cache's invariant -/

/-- CONFIG's view is read back from its byte (R160). -/
@[simp] theorem decodeConfig_encodeConfig (v : ConfigView) : decodeConfig (encodeConfig v) = v := by
  obtain ⟨b7, b6, b5, b4, b3, b2, b1, b0⟩ := v
  revert b7 b6 b5 b4 b3 b2 b1 b0
  decide

/-- The power-on update keeps EN_CRC and the two reserved bits of CONFIG (R161, R290). -/
theorem decodeConfig_powerOnConfig (mask : BitVec 3) (b : Byte) :
    (decodeConfig (powerOnConfig mask b)).enCrc = (decodeConfig b).enCrc ∧
      (decodeConfig (powerOnConfig mask b)).rsv7 = (decodeConfig b).rsv7 ∧
      (decodeConfig (powerOnConfig mask b)).crco = (decodeConfig b).crco := by
  simp [powerOnConfig]

theorem truncateAddress_zero (aw : Byte) : truncateAddress aw zeroAddress = zeroAddress := by
  simp [truncateAddress, zeroAddress]

theorem truncateAddress_idem (aw : Byte) (a : Address) :
    truncateAddress aw (truncateAddress aw a) = truncateAddress aw a := by
  simp +contextual [truncateAddress]

/-- R203: the entry of pipe 0 or 1 as the builder stores it, for a pipe enabled or not, is truncated already. -/
theorem truncateAddress_stored (aw : Byte) (enabled : Bool) (a : Address) :
    truncateAddress aw (if enabled then truncateAddress aw a else zeroAddress) =
      if enabled then truncateAddress aw a else zeroAddress := by
  cases enabled
  · exact truncateAddress_zero aw
  · exact truncateAddress_idem aw a

/-- What the builder leaves, if it leaves a cache. -/
theorem eq_builtCache_of_buildCache {p : Params} {aw : Byte} {pipes : Six PipeRecord} {c : Cache}
    (h : buildCache p aw pipes = some c) : c = builtCache p aw pipes := by
  rw [buildCache_eq] at h
  split at h
  · exact (Option.some.inj h).symm
  · cases h

/-- R42: a codable width is read back from the SETUP_AW entry. -/
theorem addressWidth_builtCache (p : Params) {aw : Byte} (pipes : Six PipeRecord) (hw : aw = 3 ∨ aw = 4 ∨ aw = 5) :
    addressWidth (builtCache p aw pipes) = aw := by
  unfold addressWidth
  rw [(builtCache_built p aw pipes hw).setupAw]
  rcases hw with rfl | rfl | rfl <;> rfl

/-- The zero bundle satisfies the invariant (R54). -/
theorem cacheInv_of_zeroBundle {s : State} (hw : CodableWidths s.params) (hz : s.toBundle = zeroBundle) : CacheInv s := by
  have hcf : s.configured = false := congrArg Bundle.configured hz
  have hca : s.cache = zeroCache := congrArg Bundle.cache hz
  constructor
  case widths => exact hw
  case blank => exact fun _ => hz
  case width | crcEnabled | masks => simp [hcf]
  case configReserved | masksReserved => rw [hca]; decide
  case addresses => rw [hca]; exact ⟨truncateAddress_zero _, truncateAddress_zero _⟩

/-- What a successful CONFIGURE leaves satisfies the invariant (R33 to R36, R39, R209). -/
theorem cacheInv_of_builtCache {s : State} {aw : Byte} (hw : CodableWidths s.params) (haw : aw ∈ s.params.legalAw)
    (hcf : s.configured = true) (hca : s.cache = builtCache s.params aw s.pipe) : CacheInv s := by
  have hcode := hw aw haw
  have hb := builtCache_built s.params aw s.pipe hcode
  rw [← hca] at hb
  constructor
  case widths => exact hw
  case blank => simp [hcf]
  case width => intro _; rw [hb.setupAw]; rcases hcode with rfl | rfl | rfl <;> decide
  case crcEnabled => intro _; rw [hb.config]; decide
  case configReserved => rw [hb.config]; decide
  case masksReserved => exact hb.reserved.symm
  case masks => exact fun i _ => ⟨hb.enRxaddr i, hb.enAa i⟩
  case addresses =>
    rw [hca, addressWidth_builtCache s.params s.pipe hcode]
    exact ⟨truncateAddress_stored aw _ _, truncateAddress_stored aw _ _⟩

/-- The invariant speaks of the bundle and the parameters alone. -/
theorem CacheInv.congr {s t : State} (h : CacheInv s) (hp : t.params = s.params) (hb : t.toBundle = s.toBundle) :
    CacheInv t := by
  obtain ⟨b, cs, ce, faults, params, now, driving, result, port, agenda⟩ := t
  subst hp hb
  exact ⟨h.widths, h.blank, h.width, h.crcEnabled, h.configReserved, h.masksReserved, h.masks, h.addresses⟩

section
variable {i : Instr} {s t : State}

/-- CONFIGURE keeps the invariant: it is refused, clears the bundle, or installs the built cache. -/
theorem configure_keeps_cacheInv (aw : Byte) (pipes : Six PipeRecord) (h : CacheInv s) :
    CacheInv (configure aw pipes s) := by
  rcases configure_cases aw pipes s with ⟨_, ht⟩ | ⟨_, _, ht⟩ | ⟨_, _, _, ht⟩ | ⟨_, hl, c, hb, ht⟩ <;> rw [ht]
  · exact h.congr rfl rfl
  · exact cacheInv_of_zeroBundle h.widths rfl
  · exact cacheInv_of_zeroBundle h.widths rfl
  · exact cacheInv_of_builtCache h.widths ((legalWidth_iff _ _).mp hl) rfl (eq_builtCache_of_buildCache hb)

/-- R31 and R54: on a zero bundle no instruction but CONFIGURE writes the bundle, since each of them wants a configured block,
a request, a completion, or a lifecycle state other than PowerOff. -/
theorem effect_keeps_zeroBundle (he : Effect i s t) (hc : isConfigure i = false) (hz : s.toBundle = zeroBundle) :
    t.toBundle = zeroBundle := by
  have hcf : s.configured = false := congrArg Bundle.configured hz
  have hrd : s.ready = false := congrArg Bundle.ready hz
  have hst : s.state = stateCode .powerOff := congrArg Bundle.state hz
  have hpo : s.powerOnReq = false := congrArg Bundle.powerOnReq hz
  cases he with
  | badWidth hi | badPipes hi => simp [hi] at hc
  | configured _ _ _ hi => simp [hi, isConfigure] at hc
  | begun _ _ _ h | powerOnRequested _ h | wakeRequested _ h | sleepRequested _ h | interruptNotified _ h
  | completed _ _ h => simp [hcf] at h
  | poweredOn _ _ h => simp [hpo] at h
  | toConfigure _ _ h | issued _ _ _ h | toSleep _ _ h | statusDecoded _ _ h => simp [hrd] at h
  | woken _ h | interrupted _ h | statusRead _ h => simp [hst, stateCode] at h
  | _ => exact hz

/-- R41: the entries the invariant speaks of stay, but for CONFIG, whose EN_CRC and reserved bits stay. -/
theorem effect_keeps_built_entries (he : Effect i s t) (hc : isConfigure i = false) :
    t.cache = { s.cache with config := t.cache.config, status := t.cache.status, fifoStatus := t.cache.fifoStatus } ∧
      (decodeConfig t.cache.config).enCrc = (decodeConfig s.cache.config).enCrc ∧
      (decodeConfig t.cache.config).rsv7 = (decodeConfig s.cache.config).rsv7 ∧
      (decodeConfig t.cache.config).crco = (decodeConfig s.cache.config).crco := by
  rcases effect_cache_cases he hc with ht | ⟨_, _, ht⟩ | ⟨_, _, ht⟩ <;> rw [ht]
  · simp
  · exact ⟨rfl, decodeConfig_powerOnConfig _ _⟩
  · simp

/-- On a configured block the invariant survives every instruction but CONFIGURE. -/
theorem effect_keeps_cacheInv_of_configured (he : Effect i s t) (hc : isConfigure i = false) (hs : s.configured = true)
    (h : CacheInv s) : CacheInv t := by
  have hp := effect_keeps_params he
  obtain ⟨hcf, hpipe⟩ := effect_keeps_configured_and_pipe he hc
  obtain ⟨hca, hcrc, hrsv, hcrco⟩ := effect_keeps_built_entries he hc
  constructor
  case widths => rw [hp]; exact h.widths
  case blank => simp [hcf, hs]
  case width => rw [hca, hcf]; exact h.width
  case crcEnabled => rw [hcrc, hcf]; exact h.crcEnabled
  case configReserved => rw [hrsv, hcrco]; exact h.configReserved
  case masksReserved => rw [hca]; exact h.masksReserved
  case masks => rw [hca, hcf, hpipe, hp]; exact h.masks
  case addresses => rw [hca]; exact h.addresses

/-- Every instruction but CONFIGURE keeps the invariant, on a blank block and on a configured one. -/
theorem effect_keeps_cacheInv (he : Effect i s t) (hc : isConfigure i = false) (h : CacheInv s) : CacheInv t := by
  cases hs : s.configured
  · have hw : CodableWidths t.params := effect_keeps_params he ▸ h.widths
    exact cacheInv_of_zeroBundle hw (effect_keeps_zeroBundle he hc (h.blank hs))
  · exact effect_keeps_cacheInv_of_configured he hc hs h

/-- The invariant is kept by every instruction. -/
theorem exec_keeps_cacheInv (he : exec i s = .next t) (h : CacheInv s) : CacheInv t := by
  cases i with
  | configure aw pipes => cases he; exact configure_keeps_cacheInv aw pipes h
  | _ => exact effect_keeps_cacheInv (exec_effect he) rfl h

end

/-- Settles O58: instructions keep the invariant, time leaves bundle and parameters, and power-on zeroes the bundle. -/
theorem stepKeepsCacheInvariant : Obligations.StepKeepsCacheInvariant := by
  intro s t h hs
  rcases step_cases hs with rfl | ⟨i, a, hi⟩ | ⟨ms, a, _, rfl⟩ | ⟨a, rfl⟩
  case inl => exact h
  case inr.inl => exact exec_keeps_cacheInv hi (h.congr rfl rfl)
  case inr.inr.inl => exact h.congr rfl rfl
  case inr.inr.inr => exact cacheInv_of_zeroBundle h.widths (powerOnReset_toBundle _)

end Sys2Proof.Machine
end

section
/-! The memory file's statements: the step that runs a submission, the registers DRIVE's frames reach, and the receive bytes
DRIVE does not read. -/

namespace Sys2Proof.Machine

/-! ## The step of a submission -/

/-- A turn that runs an instruction makes the step that instruction. -/
theorem step_of_run {i : Instr} {s a : State} (h : nextTurn s = .run i a) : step s = exec i a := by simp only [step, h]

/-- R281: the event at the front of the agenda acts, unless it waits for a DRIVE in progress. -/
theorem nextTurn_of_event {s : State} {e : Event} {rest : List Event} (ha : s.agenda = e :: rest)
    (hw : (s.driving && waitsForDrive e) = false) : nextTurn s = runEvent e { s with agenda := rest } := by
  simp [nextTurn, ha, hw]

/-- R103: a submission that decodes is run as the instruction it stands for. -/
theorem runSubmission_of_decode {sub : Submission} {i : Instr} (hd : decode sub = .ok i) (s : State) :
    runSubmission sub s = .run i s := by simp only [runSubmission, hd]

/-- Settles O3: both events act in this step, a call since no DRIVE is in progress and an atYield since it never waits. -/
theorem stepRunsDecodedSubmission : Obligations.StepRunsDecodedSubmission := by
  intro s sub rest i hd
  have hrun := runSubmission_of_decode hd { s with agenda := rest }
  constructor
  · intro ha hdr
    have hw : (s.driving && waitsForDrive (.call sub)) = false := by rw [hdr]; rfl
    exact step_of_run ((nextTurn_of_event ha hw).trans hrun)
  · intro ha
    have hw : (s.driving && waitsForDrive (.atYield sub)) = false := Bool.and_false _
    exact step_of_run ((nextTurn_of_event ha hw).trans hrun)

/-! ## The frames of DRIVE -/

/-- A frame of the block that reads or writes one of its own registers, or flushes a FIFO (R91, R92). -/
def InScopeForm (p : Params) (f : Frame) : Prop := ∃ j, IsForm p f j ∧ inScopeFrame j = true

theorem inScopeForm_writeFrame (p : Params) {addr : BitVec 5} {bytes : List Byte} (hs : inScopeRegister addr = true)
    (hl : bytes.length ≤ 5) : InScopeForm p (writeFrame p addr bytes) := ⟨_, isForm_writeFrame p addr hl, hs⟩

theorem inScopeForm_readFrame (p : Params) {addr : BitVec 5} {n : Byte} (hs : inScopeRegister addr = true)
    (hn : n.toNat ≤ 5) : InScopeForm p (readFrame p addr n.toNat) := ⟨_, isForm_readFrame p addr hn, hs⟩

/-- A write of one byte. -/
theorem inScopeForm_writeByte (p : Params) {addr : BitVec 5} (b : Byte) (hs : inScopeRegister addr = true) :
    InScopeForm p (writeFrame p addr [b]) := inScopeForm_writeFrame p hs (by simp)

/-- R297: the configure sequence writes EN_AA, EN_RXADDR, SETUP_AW and the six pipe addresses, and flushes both FIFOs. -/
theorem configFrame_inScopeForm {p : Params} {c : Cache} {k : Fin 12} {f : Frame} (h : configFrame p c k = some f) :
    InScopeForm p f := by
  unfold configFrame at h
  split at h <;> cases h
  case h_1 | h_2 | h_3 => exact inScopeForm_writeByte p _ (by decide)
  case h_4 | h_5 | h_6 | h_7 | h_8 | h_9 => exact inScopeForm_writeFrame p (by decide) (addressPayload_length c _)
  case h_10 => exact ⟨.flushTx, isForm_flushTx p, rfl⟩
  case h_11 => exact ⟨.flushRx, isForm_flushRx p, rfl⟩

/-- Two events in front make another output list. -/
theorem port_ne_cons_cons (ps : List PortEvent) (x y : PortEvent) : ps ≠ x :: y :: ps := fun h => by
  have hl := congrArg List.length h
  simp only [List.length_cons] at hl
  omega

/-- The frame a DRIVE requests: H_PowerOff's write of CONFIG (R290), a frame of the configure sequence (R297), or
H_ExternalInterrupt's read of FIFO_STATUS (R305). -/
theorem drive_request_cases {s t : State} {f : Frame} (he : Effect .drive s t)
    (hp : t.port = .busRequest f :: .setCS true :: s.port) :
    f = writeFrame s.params 0x00 [powerOnConfig s.params.powerOnIrqMask s.cache.config] ∨
      configFrame s.params s.cache s.cfgStep = some f ∨ f = readFrame s.params 0x17 1 := by
  cases he with
  | begun _ _ hi => cases hi
  | completed _ hi => cases hi
  | poweredOn => cases hp; exact .inl rfl
  | issued g _ _ _ _ hg => cases hp; exact .inr (.inl hg)
  | statusRead => cases hp; exact .inr (.inr rfl)
  | woken => cases hp
  | _ => exact absurd hp (port_ne_cons_cons s.port _ _)

/-- Settles O11: each of the frames DRIVE can request is in scope. -/
theorem driveFramesAreInScope : Obligations.DriveFramesAreInScope := by
  intro s t f h hp
  rcases drive_request_cases (exec_effect h) hp with rfl | hf | rfl
  · exact inScopeForm_writeByte s.params _ (by decide)
  · exact configFrame_inScopeForm hf
  · exact inScopeForm_readFrame (n := 1) s.params (by decide) (by decide)

/-! ## Receive bytes DRIVE does not read -/

/-- The state with other receive bytes. -/
def withRxBuf (b : Six Byte) (s : State) : State := { s with rxBuf := b }

section
variable (b : Six Byte) (s : State)

/-- A guarded operation commutes with replacing the receive bytes if its action does. -/
theorem hostOperation_withRxBuf (enabled : Bool) {act : State → State} (ha : act (withRxBuf b s) = withRxBuf b (act s)) :
    hostOperation enabled act (withRxBuf b s) = withRxBuf b (hostOperation enabled act s) := by
  unfold hostOperation
  rw [apply_ite (withRxBuf b), apply_ite (withRxBuf b), ha]
  rfl

theorem handlePowerOff_withRxBuf : handlePowerOff (withRxBuf b s) = withRxBuf b (handlePowerOff s) := by
  unfold handlePowerOff
  rw [apply_ite (withRxBuf b), apply_ite (withRxBuf b)]
  rfl

theorem handleModuleStartup_withRxBuf : handleModuleStartup (withRxBuf b s) = withRxBuf b (handleModuleStartup s) := by
  unfold handleModuleStartup
  rw [apply_ite (withRxBuf b)]
  rfl

theorem configurePass_withRxBuf : configurePass (withRxBuf b s) = withRxBuf b (configurePass s) := by
  have hf : configFrame (withRxBuf b s).params (withRxBuf b s).cache (withRxBuf b s).cfgStep =
      configFrame s.params s.cache s.cfgStep := rfl
  unfold configurePass
  rw [apply_ite (withRxBuf b), hf]
  cases configFrame s.params s.cache s.cfgStep with
  | none => rfl
  | some f => simp only [apply_ite (withRxBuf b)]; rfl

theorem handleSleep_withRxBuf : handleSleep (withRxBuf b s) = withRxBuf b (handleSleep s) := by
  unfold handleSleep
  rw [apply_ite (withRxBuf b)]
  rfl

theorem handleIdle_withRxBuf : handleIdle (withRxBuf b s) = withRxBuf b (handleIdle s) := by
  unfold handleIdle
  rw [apply_ite (withRxBuf b)]
  rfl

theorem handleExternalInterrupt_withRxBuf :
    handleExternalInterrupt (withRxBuf b s) = withRxBuf b (handleExternalInterrupt s) := by
  unfold handleExternalInterrupt
  rw [apply_ite (withRxBuf b)]
  rfl

variable {b s}

/-- Buffers that agree below a count of two or more agree on the STATUS and FIFO_STATUS bytes. -/
theorem statusBytes_of_take_eq {a : Six Byte} {n : Nat} (hn : 2 ≤ n) (h : (bufferBytes b).take n = (bufferBytes a).take n) :
    b.c0 = a.c0 ∧ b.c1 = a.c1 := by
  have h2 := congrArg (List.take 2) h
  rw [List.take_take, List.take_take, Nat.min_eq_left hn] at h2
  simpa [bufferBytes] using h2

variable (h : (bufferBytes b).take s.rxCount = (bufferBytes s.rxBuf).take s.rxCount)
include h

/-- R309: H_StatusReading reads the two bytes only when both were received. -/
theorem handleStatusReading_withRxBuf : handleStatusReading (withRxBuf b s) = withRxBuf b (handleStatusReading s) := by
  unfold handleStatusReading
  rw [apply_ite (withRxBuf b), apply_ite (withRxBuf b)]
  by_cases hc : s.rxCount < 2
  · rw [if_pos hc, if_pos (show (withRxBuf b s).rxCount < 2 from hc)]; rfl
  · obtain ⟨h0, h1⟩ := statusBytes_of_take_eq (by omega) h
    have h0' : (withRxBuf b s).rxBuf.c0 = s.rxBuf.c0 := h0
    have h1' : (withRxBuf b s).rxBuf.c1 = s.rxBuf.c1 := h1
    rw [h0', h1']; rfl

/-- R111: the handler of every state commutes with replacing the bytes beyond the count. -/
theorem handlerOf_withRxBuf (x : LifecycleState) : handlerOf x (withRxBuf b s) = withRxBuf b (handlerOf x s) := by
  cases x with
  | powerOff => exact handlePowerOff_withRxBuf b s
  | moduleStartup => exact handleModuleStartup_withRxBuf b s
  | configure => exact configurePass_withRxBuf b s
  | sleep => exact handleSleep_withRxBuf b s
  | idle => exact handleIdle_withRxBuf b s
  | externalInterrupt => exact handleExternalInterrupt_withRxBuf b s
  | statusReading => exact handleStatusReading_withRxBuf h
  | receive | receiving | transmit | transmitting | poweringOff => rfl

theorem dispatchState_withRxBuf : dispatchState (withRxBuf b s) = withRxBuf b (dispatchState s) := by
  cases hx : lifecycleOf s.state with
  | none =>
    have hx' : lifecycleOf (withRxBuf b s).state = none := hx
    simp only [dispatchState, hx, hx']
    rfl
  | some x =>
    have hs : s.state = stateCode x := lifecycleOf_eq_some hx
    rw [dispatchState_of hs, dispatchState_of (s := withRxBuf b s) hs]
    exact handlerOf_withRxBuf h x

end

/-- Settles O43: a DRIVE in progress passes H_Configure, which reads no receive byte, and a new one dispatches. -/
theorem staleReceiveBytesAreNotRead : Obligations.StaleReceiveBytesAreNotRead := by
  intro s b h
  refine ⟨_, rfl, congrArg Host.Outcome.next ?_⟩
  change _ = withRxBuf b _
  rw [apply_ite (withRxBuf b), ← configurePass_withRxBuf, ← hostOperation_withRxBuf b s _ (dispatchState_withRxBuf h)]
  rfl

end Sys2Proof.Machine
end

section
/-! The encoding file's statements: decode and encode agree, the command byte's two fields, the table's words, the frames the
block requests, their exchange and response, and the begin operations as command frames. -/

namespace Sys2Proof.Machine

/-! ## Decode and encode agree -/

/-- Pipe records are read back from their bytes, whatever follows. -/
theorem parsePipes_encodePipe (ps : List PipeRecord) (rest : List Byte) :
    parsePipes ps.length (ps.flatMap encodePipe ++ rest) = .ok (ps, rest) := by
  induction ps with
  | nil => rfl
  | cons p ps ih =>
    rw [List.flatMap_cons, List.append_assoc, List.length_cons, parsePipes, parsePipe_encodePipe]
    simp only [ih]

/-- The six records' bytes are those of the list of records. -/
theorem encodePipes_eq_flatMap (ps : Six PipeRecord) :
    encodePipes ps = [ps.c0, ps.c1, ps.c2, ps.c3, ps.c4, ps.c5].flatMap encodePipe := by
  simp [encodePipes]

/-- CONFIGURE's operands are read back from their bytes. -/
theorem parseConfigure_encodePipes (aw : Byte) (pipes : Six PipeRecord) :
    parseConfigure (aw :: encodePipes pipes) = .ok (.configure aw pipes) := by
  have hp : parsePipes Config.numPipes (encodePipes pipes) =
      .ok ([pipes.c0, pipes.c1, pipes.c2, pipes.c3, pipes.c4, pipes.c5], []) := by
    have h := parsePipes_encodePipe [pipes.c0, pipes.c1, pipes.c2, pipes.c3, pipes.c4, pipes.c5] []
    rwa [List.append_nil, ← encodePipes_eq_flatMap] at h
  simp only [parseConfigure, hp]

theorem parseNotifyDone_encodeCounted {bytes : List Byte} (h : bytes.length < 256) :
    parseNotifyDone (encodeCounted bytes) = .ok (.notifyDone bytes) := by
  simp only [parseNotifyDone, parseCounted_encodeCounted h]

theorem parseBeginWrite_encodeCounted (addr : Byte) {bytes : List Byte} (h : bytes.length < 256) :
    parseBeginWrite (addr :: encodeCounted bytes) = .ok (.beginWrite addr bytes) := by
  simp only [parseBeginWrite, parseCounted_encodeCounted h]

/-- Settles O9: a register frame is read back by its command byte and lengths, a list of operand bytes by its parser; the
encodings of fixed length compute. -/
theorem decodeEncode : Obligations.DecodeEncode := by
  intro i hw
  cases i with
  | rRegister addr n =>
    obtain ⟨-, -, hd⟩ := isForm_readFrame Config.defaultParams addr (of_decide_eq_true hw)
    exact hd rfl rfl
  | wRegister addr bytes => exact decodeFrame_writeFrame rfl addr (of_decide_eq_true hw)
  | configure aw pipes => exact parseConfigure_encodePipes aw pipes
  | notifyDone bytes => exact parseNotifyDone_encodeCounted (of_decide_eq_true hw)
  | beginWrite addr bytes => exact parseBeginWrite_encodeCounted addr (of_decide_eq_true hw)
  | _ => rfl

/-! ## The frames the block requests -/

/-- A frame is requested by DRIVE, or by an engine operation whose frame is one of the four forms. -/
theorem request_of_drive_or_isForm {i : Instr} {s t : State} {f : Frame} (he : Effect i s t)
    (hp : t.port = .busRequest f :: .setCS true :: s.port) : i = .drive ∨ ∃ j, IsForm s.params f j := by
  cases he with
  | begun g j _ _ _ _ _ hj => cases hp; exact .inr ⟨j, hj⟩
  | completed => cases hp
  | poweredOn hi | issued _ hi | woken hi | statusRead hi => exact .inl hi
  | _ => exact absurd hp (port_ne_cons_cons s.port _ _)

/-- Settles O10: DRIVE's frames are forms in scope, and an engine operation's frame is a form by its operand check. -/
theorem emittedFramesAreOfTheFourForms : Obligations.EmittedFramesAreOfTheFourForms := by
  intro i s t f h hp
  rcases request_of_drive_or_isForm (exec_effect h) hp with rfl | hf
  · obtain ⟨j, hj, -⟩ := driveFramesAreInScope s t f h hp
    exact ⟨j, hj⟩
  · exact hf

/-! ## The opcode table's words -/

/-- A word read from the opcode table is the decoding of its submission. -/
theorem decode_tableSubmission_of_decodeTableWord {nbits w : Nat} {i : Instr} (h : decodeTableWord nbits w = some i) :
    decode (tableSubmission nbits w) = .ok i := by
  unfold decodeTableWord at h
  split at h
  · cases hd : decode (tableSubmission nbits w) with
    | ok j => rw [hd] at h; cases h; rfl
    | error e => rw [hd] at h; cases h
  · cases h

/-- Settles O6: the word's submission is an atYield event at the front of the agenda, which acts in any state. -/
theorem fetchWordRuns : Obligations.FetchWordRuns := by
  intro s nbits w i h
  have hd := decode_tableSubmission_of_decodeTableWord h
  exact (stepRunsDecodedSubmission (s.withFetchWord nbits w) _ s.agenda i hd).2 rfl

/-- Settles O7: the eight submissions are closed terms, which the decoder evaluates. -/
theorem writtenWordsDecode : Obligations.WrittenWordsDecode := by
  unfold Obligations.WrittenWordsDecode
  decide

/-! ## The command byte -/

/-- The opcode field of a command byte is its high three bits (R122). -/
theorem opcodeField_eq_iff (b : Byte) (c : BitVec 3) : b.extractLsb' 5 3 = c ↔ b.toNat / 32 = c.toNat := by
  have hfield : (b.extractLsb' 5 3).toNat = b.toNat / 32 := by
    rw [BitVec.extractLsb'_toNat, Nat.shiftRight_eq_div_pow]
    omega
  rw [← BitVec.toNat_inj, hfield]

/-- The address field of a command byte is its low five bits (R122). -/
theorem addressField_eq (b : Byte) : b.extractLsb' 0 5 = BitVec.ofNat 5 (b.toNat % 32) := by
  apply BitVec.eq_of_toNat_eq
  simp

theorem decodeCmd_of_opcode_zero {b : Byte} (h : b.toNat / 32 = 0) :
    decodeCmd b = .rRegister (BitVec.ofNat 5 (b.toNat % 32)) := by
  rw [decodeCmd, if_pos ((opcodeField_eq_iff b 0b000).mpr h), addressField_eq]

theorem decodeCmd_of_opcode_one {b : Byte} (h : b.toNat / 32 = 1) :
    decodeCmd b = .wRegister (BitVec.ofNat 5 (b.toNat % 32)) := by
  have h0 : b.extractLsb' 5 3 ≠ 0b000 := by rw [Ne, opcodeField_eq_iff, h]; decide
  rw [decodeCmd, if_neg h0, if_pos ((opcodeField_eq_iff b 0b001).mpr h), addressField_eq]

/-- A byte whose high bits are neither register opcode and that is no flush byte is not emitted. -/
theorem decodeCmd_of_two_le {b : Byte} (h : 2 ≤ b.toNat / 32) (htx : b ≠ Config.opFlushTx)
    (hrx : b ≠ Config.opFlushRx) : decodeCmd b = .notEmitted b := by
  have hne (c : BitVec 3) (hc : c.toNat < 2) : b.extractLsb' 5 3 ≠ c := by rw [Ne, opcodeField_eq_iff]; omega
  rw [decodeCmd, if_neg (hne 0b000 (by decide)), if_neg (hne 0b001 (by decide)), if_neg htx, if_neg hrx]

/-- Settles O8: the opcode field decides the two register commands, the whole byte the rest. -/
theorem commandByteDecoder : Obligations.CommandByteDecoder := fun _ =>
  ⟨decodeCmd_of_opcode_zero, decodeCmd_of_opcode_one, fun h => h ▸ rfl, fun h => h ▸ rfl, decodeCmd_of_two_le⟩

/-! ## The exchange of a frame and its response -/

theorem exchangeOut_length (p : Params) (f : Frame) : (exchangeOut p f).length = exchangeLength f := by
  simp only [exchangeOut, exchangeLength, List.length_append, List.length_replicate]
  omega

/-- R126: position `j` sends the frame's byte, and the filler from `txLen` on. -/
theorem exchangeOut_getElem? (p : Params) {f : Frame} {j : Nat} (h : j < exchangeLength f) :
    (exchangeOut p f)[j]? = if j < f.tx.length then f.tx[j]? else some p.fillByte := by
  rw [exchangeOut, List.getElem?_append]
  split
  · rfl
  · have hj : j - f.tx.length < f.rxLen - f.tx.length := by rw [exchangeLength] at h; omega
    exact List.getElem?_replicate_of_lt hj

/-- The frame clocked out after a begin is the frame begun (R240). -/
theorem clockedOut_of_begun {f : Frame} {s t : State} (h : Begun f s t) : clockedOut t = exchangeOut s.params f := by
  have hp : t.params = s.params := by obtain ⟨buf, -, rfl⟩ := h; rfl
  rw [clockedOut, engineFrame_of_begun h, hp]

/-- Settles O17: the filler covers what the frame leaves of the exchange, and the begun frame is the one in the buffer. -/
theorem exchangeOfAFrame : Obligations.ExchangeOfAFrame := fun s _ f _ _ _ =>
  ⟨rfl, exchangeOut_length s.params f, exchangeOut_getElem? s.params, List.getElem?_take, clockedOut_of_begun⟩

/-- R128: of `k + 1` bytes the first is the status and the next `k` are the data. -/
theorem parseResponse_succ (buf : Six Byte) (k : Nat) :
    parseResponse buf (k + 1) = { status := some buf.c0, data := (bufferBytes buf).tail.take k } := rfl

/-- Settles O18: the data are the `m - 1` bytes after the status, which the buffer holds as `m ≤ 6`. -/
theorem responseParse : Obligations.ResponseParse := by
  intro buf m hm
  cases m with
  | zero => exact ⟨fun _ => rfl, by simp⟩
  | succ n =>
    have hn : n ≤ (bufferBytes buf).tail.length := Nat.le_of_succ_le_succ hm
    refine ⟨by simp, fun _ => ?_⟩
    rw [parseResponse_succ]
    refine ⟨rfl, List.length_take_of_le hn, fun k hk => ?_⟩
    calc ((bufferBytes buf).tail.take n)[k]?
      _ = (bufferBytes buf).tail[k]? := List.getElem?_take_of_lt hk
      _ = (bufferBytes buf)[1 + k]? := by rw [List.getElem?_tail, Nat.add_comm]

/-! ## The begin operations as command frames -/

/-- A register number extended to a byte is in range. -/
theorem registerInRange_zeroExtend (reg : BitVec 5) : registerInRange (reg.zeroExtend 8) = true := by
  rw [registerInRange_iff, BitVec.toNat_setWidth_of_le (by decide)]
  omega

/-- The low five bits of an extended register number are the number. -/
theorem extract_zeroExtend (reg : BitVec 5) : (reg.zeroExtend 8).extractLsb' 0 5 = reg := by
  apply BitVec.eq_of_toNat_eq
  rw [BitVec.extractLsb'_toNat, BitVec.toNat_setWidth_of_le (by decide), Nat.shiftRight_zero]
  omega

/-- Settles O31: on an extended register number the host's range check passes and its frame is the command frame's. -/
theorem beginIsTheCommandFrame : Obligations.BeginIsTheCommandFrame := by
  intro reg n bytes s
  refine ⟨?_, ?_, rfl, rfl⟩
  · simp only [exec, execBeginRead, execRRegister, registerInRange_zeroExtend, extract_zeroExtend, Bool.true_and]
  · simp only [exec, execBeginWrite, execWRegister, registerInRange_zeroExtend, extract_zeroExtend, Bool.true_and]

end Sys2Proof.Machine
end

section
/-! The register model: round trips, bit positions, the masked power-on update, and the width codes (40_register_model.md). -/

namespace Sys2Proof.Machine

/-! ## Round trips of the views (R160)

Fields that are neighbours in a byte join to one, and a field of a joined byte is the field or part of it. -/

theorem encodeConfig_decodeConfig (b : Byte) : encodeConfig (decodeConfig b) = b := by
  simp (disch := decide) only [encodeConfig, decodeConfig, BitVec.extractLsb'_append_extractLsb'_eq_extractLsb',
    BitVec.extractLsb'_eq_self]

theorem encodeEnAa_decodeEnAa (b : Byte) : encodeEnAa (decodeEnAa b) = b := BitVec.extractLsb'_append_extractLsb'

theorem decodeEnAa_encodeEnAa (v : EnAaView) : decodeEnAa (encodeEnAa v) = v := by
  simp only [decodeEnAa, encodeEnAa, BitVec.extractLsb'_append_eq_left, BitVec.extractLsb'_append_eq_right]

theorem encodeEnRxAddr_decodeEnRxAddr (b : Byte) : encodeEnRxAddr (decodeEnRxAddr b) = b :=
  BitVec.extractLsb'_append_extractLsb'

theorem decodeEnRxAddr_encodeEnRxAddr (v : EnRxAddrView) : decodeEnRxAddr (encodeEnRxAddr v) = v := by
  simp only [decodeEnRxAddr, encodeEnRxAddr, BitVec.extractLsb'_append_eq_left, BitVec.extractLsb'_append_eq_right]

theorem encodeSetupAw_decodeSetupAw (b : Byte) : encodeSetupAw (decodeSetupAw b) = b :=
  BitVec.extractLsb'_append_extractLsb'

theorem decodeSetupAw_encodeSetupAw (v : SetupAwView) : decodeSetupAw (encodeSetupAw v) = v := by
  simp only [decodeSetupAw, encodeSetupAw, BitVec.extractLsb'_append_eq_left, BitVec.extractLsb'_append_eq_right]

theorem encodeStatus_decodeStatus (b : Byte) : encodeStatus (decodeStatus b) = b := by
  simp (disch := decide) only [encodeStatus, decodeStatus, BitVec.extractLsb'_append_extractLsb'_eq_extractLsb',
    BitVec.extractLsb'_eq_self]

theorem decodeStatus_encodeStatus (v : StatusView) : decodeStatus (encodeStatus v) = v := by
  simp (disch := decide) only [decodeStatus, encodeStatus, BitVec.extractLsb'_append_eq_of_le,
    BitVec.extractLsb'_append_eq_of_add_le, Nat.reduceSub, BitVec.extractLsb'_eq_self]

theorem encodeFifoStatus_decodeFifoStatus (b : Byte) : encodeFifoStatus (decodeFifoStatus b) = b := by
  simp (disch := decide) only [encodeFifoStatus, decodeFifoStatus,
    BitVec.extractLsb'_append_extractLsb'_eq_extractLsb', BitVec.extractLsb'_eq_self]

theorem decodeFifoStatus_encodeFifoStatus (v : FifoStatusView) : decodeFifoStatus (encodeFifoStatus v) = v := by
  simp (disch := decide) only [decodeFifoStatus, encodeFifoStatus, BitVec.extractLsb'_append_eq_of_le,
    BitVec.extractLsb'_append_eq_of_add_le, Nat.reduceSub, BitVec.extractLsb'_eq_self]

/-- Settles O12: each view's fields are all its byte's bits, each once. -/
theorem registerViewsRoundTrip : Obligations.RegisterViewsRoundTrip :=
  ⟨⟨encodeConfig_decodeConfig, decodeConfig_encodeConfig⟩, ⟨encodeEnAa_decodeEnAa, decodeEnAa_encodeEnAa⟩,
    ⟨encodeEnRxAddr_decodeEnRxAddr, decodeEnRxAddr_encodeEnRxAddr⟩,
    ⟨encodeSetupAw_decodeSetupAw, decodeSetupAw_encodeSetupAw⟩, ⟨encodeStatus_decodeStatus, decodeStatus_encodeStatus⟩,
    encodeFifoStatus_decodeFifoStatus, decodeFifoStatus_encodeFifoStatus⟩

/-! ## Bit positions (R162 to R169) -/

/-- A field of one bit is that bit. -/
theorem extractLsb'_one {n : Nat} (b : BitVec n) (i : Nat) : b.extractLsb' i 1 = .ofBool (b.getLsbD i) := by
  apply BitVec.eq_of_getLsbD_eq
  intro k hk
  obtain rfl : k = 0 := by omega
  simp

/-- A field as a number: its byte divided by the place of its lowest bit, the bits above it dropped. -/
theorem toNat_field (b : Byte) (start len : Nat) : (b.extractLsb' start len).toNat = b.toNat / 2 ^ start % 2 ^ len := by
  rw [BitVec.extractLsb'_toNat, Nat.shiftRight_eq_div_pow]

/-- A field from bit 0 has no bits below it. -/
theorem toNat_lowField (b : Byte) (len : Nat) : (b.extractLsb' 0 len).toNat = b.toNat % 2 ^ len := by
  rw [toNat_field, Nat.pow_zero, Nat.div_one]

/-- A field that ends at bit 7 has no bits above it. -/
theorem toNat_topField (b : Byte) {start len : Nat} (h : start + len = 8) :
    (b.extractLsb' start len).toNat = b.toNat / 2 ^ start := by
  rw [toNat_field, Nat.mod_eq_of_lt]
  exact Nat.div_lt_of_lt_mul (by rw [← Nat.pow_add, h]; exact b.isLt)

theorem field_eq_ofNat (b : Byte) (start len : Nat) :
    b.extractLsb' start len = BitVec.ofNat len (b.toNat / 2 ^ start % 2 ^ len) := by
  rw [← toNat_field, BitVec.ofNat_toNat, BitVec.setWidth_eq]

theorem decodeConfig_eq_bits (b : Byte) : decodeConfig b =
    ⟨.ofBool (b.getLsbD 7), .ofBool (b.getLsbD 6), .ofBool (b.getLsbD 5), .ofBool (b.getLsbD 4),
      .ofBool (b.getLsbD 3), .ofBool (b.getLsbD 2), .ofBool (b.getLsbD 1), .ofBool (b.getLsbD 0)⟩ := by
  simp only [decodeConfig, extractLsb'_one]

theorem decodeStatus_eq_bits (b : Byte) : decodeStatus b =
    ⟨.ofBool (b.getLsbD 7), .ofBool (b.getLsbD 6), .ofBool (b.getLsbD 5), .ofBool (b.getLsbD 4),
      BitVec.ofNat 3 (b.toNat / 2 % 8), .ofBool (b.getLsbD 0)⟩ := by
  simp only [decodeStatus, extractLsb'_one, field_eq_ofNat b 1 3, Nat.reducePow]

theorem decodeFifoStatus_eq_bits (b : Byte) : decodeFifoStatus b =
    ⟨.ofBool (b.getLsbD 7), .ofBool (b.getLsbD 6), .ofBool (b.getLsbD 5), .ofBool (b.getLsbD 4),
      BitVec.ofNat 2 (b.toNat / 4 % 4), .ofBool (b.getLsbD 1), .ofBool (b.getLsbD 0)⟩ := by
  simp only [decodeFifoStatus, extractLsb'_one, field_eq_ofNat b 2 2, Nat.reducePow]

/-- R168 on the number RX_P_NO holds. -/
theorem rxPipe_eq (v : StatusView) : rxPipe v =
    if v.rxPNo.toNat ≤ 5 then .pipe v.rxPNo else if v.rxPNo.toNat = 6 then .unused else .rxEmpty := by
  simp only [rxPipe, BitVec.le_def, ← BitVec.toNat_inj]
  rfl

theorem rxPipe_decodeStatus (b : Byte) : rxPipe (decodeStatus b) =
    if b.toNat / 2 % 8 ≤ 5 then .pipe (BitVec.ofNat 3 (b.toNat / 2 % 8))
    else if b.toNat / 2 % 8 = 6 then .unused else .rxEmpty := by
  have hn : (BitVec.ofNat 3 (b.toNat / 2 % 8)).toNat = b.toNat / 2 % 8 := by
    rw [BitVec.toNat_ofNat, Nat.mod_mod]
  simp only [rxPipe_eq, decodeStatus_eq_bits, hn]

/-- Settles O13: one-bit fields as bits, wider ones as numbers, and the pipe from the number RX_P_NO holds. -/
theorem registerLayouts : Obligations.RegisterLayouts := fun b =>
  ⟨decodeConfig_eq_bits b, toNat_topField b rfl, toNat_lowField b 6, toNat_topField b rfl,
    toNat_lowField b 6, toNat_topField b rfl, toNat_lowField b 2, decodeStatus_eq_bits b,
    decodeFifoStatus_eq_bits b, rxPipe_decodeStatus b⟩

/-! ## The power-on update as a mask (R161) -/

theorem decodeConfig_injective : Function.Injective decodeConfig :=
  Function.LeftInverse.injective encodeConfig_decodeConfig

/-- Settles O14: both bytes have the same view, bit by bit: a named bit is cleared and set anew, another kept. -/
theorem powerOnUpdateIsMasked : Obligations.PowerOnUpdateIsMasked := by
  intro mask b
  apply decodeConfig_injective
  rw [powerOnConfig, decodeConfig_encodeConfig, decodeConfig_eq_bits, decodeConfig_eq_bits]
  simp [extractLsb'_one]

/-! ## Address-width codes (R167) -/

/-- R42: the width read from SETUP_AW is that of the code written there. -/
theorem addressWidth_of_setupAw {code : BitVec 2} {w : Byte} (h : widthOf code = some w) (c : Cache) (rsv : BitVec 6) :
    addressWidth { c with setupAw := encodeSetupAw { rsv := rsv, aw := code } } = w := by
  rw [widthOf] at h
  split at h
  · cases h
  · rw [addressWidth, decodeSetupAw_encodeSetupAw]
    exact Option.some.inj h

theorem widthOf_awCode {w : Byte} (hw : w = 3 ∨ w = 4 ∨ w = 5) : widthOf (awCode w) = some w := by
  rcases hw with rfl | rfl | rfl <;> decide

/-- Settles O15: a codable width's code is not 00, so `widthOf` and `addressWidth` read the same number back. -/
theorem widthCodes : Obligations.WidthCodes :=
  ⟨by decide, by decide, by decide, by decide, fun _ hw =>
    ⟨widthOf_awCode hw, fun c => addressWidth_of_setupAw (widthOf_awCode hw) c 0⟩⟩

end Sys2Proof.Machine
end

section
/-! The configuration builder's statements: one equation per outcome of CONFIGURE, and a second CONFIGURE
(41_configuration_builder.md). -/

namespace Sys2Proof.Machine

section
variable {aw : Byte} {pipes : Six PipeRecord} {s : State}

/-! ## What the build answers (R204) -/

theorem buildCache_of_pipesAgree {p : Params} (h : PipesAgree p aw pipes) :
    buildCache p aw pipes = some (builtCache p aw pipes) := by
  rw [buildCache_eq, if_pos ((allPass_iff p aw pipes).mpr h)]

theorem buildCache_of_not_pipesAgree {p : Params} (h : ¬ PipesAgree p aw pipes) : buildCache p aw pipes = none := by
  rw [buildCache_eq, if_neg (mt (allPass_iff p aw pipes).mp h)]

/-! ## The outcomes of CONFIGURE (R210) -/

theorem configure_of_busy (hb : s.busy = true) :
    configure aw pipes s = raise .protocolViolation (some .pvConfigureBusy) s := by
  simp [configure, hb]

theorem configure_of_illegal_width (hb : s.busy = false) (hw : aw ∉ s.params.legalAw) :
    configure aw pipes s = raise .invalidAddressWidth none (clearSlate s) := by
  simp [configure, hb, legalWidth_iff, hw]

theorem configure_of_build_fails (hb : s.busy = false) (hw : aw ∈ s.params.legalAw)
    (hc : buildCache s.params aw pipes = none) :
    configure aw pipes s = raise .invalidP2P5Address none (clearSlate s) := by
  simp [configure, hb, (legalWidth_iff s.params aw).mpr hw, hc]

theorem configure_of_built {c : Cache} (hb : s.busy = false) (hw : aw ∈ s.params.legalAw)
    (hc : buildCache s.params aw pipes = some c) :
    configure aw pipes s = returnCode .ok { clearSlate s with cache := c, pipe := pipes, configured := true } := by
  simp [configure, hb, (legalWidth_iff s.params aw).mpr hw, hc]

/-- CONFIGURE returns OK only with a legal width and a built cache, which it installs. -/
theorem built_of_configure_ok (h : (configure aw pipes s).result = some .ok) :
    aw ∈ s.params.legalAw ∧ ∃ c, buildCache s.params aw pipes = some c ∧
      configure aw pipes s = returnCode .ok { clearSlate s with cache := c, pipe := pipes, configured := true } := by
  rcases configure_cases aw pipes s with ⟨_, ht⟩ | ⟨_, _, ht⟩ | ⟨_, _, _, ht⟩ | ⟨_, hl, hbuilt⟩
  case inl | inr.inl | inr.inr.inl => simp [ht] at h
  case inr.inr.inr => exact ⟨(legalWidth_iff _ _).mp hl, hbuilt⟩

/-- A violation raised with a reason is what the statements call `Violates`. -/
theorem raise_violates (f : FaultReason) (s : State) : Violates f s (.next (raise .protocolViolation (some f) s)) :=
  ⟨addFault f s.faults, hasFault_addFault s.faults f, rfl⟩

end

/-- Settles O19: agreeing pipes build the closed-form cache, which CONFIGURE installs in a zero bundle. -/
theorem configureBuildsTheCache : Obligations.ConfigureBuildsTheCache := by
  intro aw pipes s hb hw hcode hagree
  refine ⟨builtCache s.params aw pipes, builtCache_built _ _ _ hcode, ?_⟩
  exact congrArg Host.Outcome.next (configure_of_built hb hw (buildCache_of_pipesAgree hagree))

/-- Settles O21: pipes that disagree stop the build, after the slate is cleared. -/
theorem configureRefusesPipes : Obligations.ConfigureRefusesPipes := by
  intro aw pipes s hb hw hdiff
  exact congrArg Host.Outcome.next (configure_of_build_fails hb hw (buildCache_of_not_pipesAgree hdiff))

/-- Settles O23: the first CONFIGURE leaves no frame outstanding and keeps the parameters, so the second builds the same
cache from the same zero bundle. -/
theorem configureIsIdempotent : Obligations.ConfigureIsIdempotent := by
  rintro aw pipes s _ - ⟨⟩ hok
  obtain ⟨hw, c, hc, ht⟩ := built_of_configure_ok hok
  rw [ht]
  exact ⟨_, congrArg Host.Outcome.next (configure_of_built rfl hw hc), rfl, rfl⟩

/-- Settles O20: the width check comes before the build, so no hypothesis speaks of the pipes. -/
theorem configureRefusesWidth : Obligations.ConfigureRefusesWidth := by
  intro aw pipes s hb hw
  exact congrArg Host.Outcome.next (configure_of_illegal_width hb hw)

/-- Settles O22: the check of `busy` comes before the slate is cleared. -/
theorem configureRefusedWhileBusy : Obligations.ConfigureRefusedWhileBusy := by
  intro aw pipes s hb
  have hraise : exec (.configure aw pipes) s = .next (raise .protocolViolation (some .pvConfigureBusy) s) :=
    congrArg Host.Outcome.next (configure_of_busy hb)
  exact hraise ▸ raise_violates .pvConfigureBusy s

end Sys2Proof.Machine
end

section
/-! The transaction engine's statements: the frame each engine operation sends, its refusals, the stability of an outstanding
frame, and the engine's invariant (42_transaction_engine.md). -/

namespace Sys2Proof.Machine

/-! ## What an engine operation does (R242 to R248, R410) -/

section
variable {f : Frame} {s : State}

/-- R244: the operand check comes before `Begin`, so an operand out of range is an ArgumentError also while busy. -/
theorem engineOperation_refuses_operands (f : Frame) (s : State) :
    engineOperation false f s = raise .argumentError none s := by
  rcases hostOperation_cases s.params.exposeEngine (fun s => raise .argumentError none s) s with h | ⟨_, _, h⟩ <;> exact h

/-- R242: with its operands in range, an operation on a busy engine is an overlap. -/
theorem engineOperation_overlaps (he : s.params.exposeEngine = true) (hc : s.configured = true) (hb : s.busy = true) :
    engineOperation true f s = raise .protocolViolation (some .pvOverlap) s := by
  simp [engineOperation, hostOperation_acts he hc, engineBegin, hb]

/-- R240: an accepted operation sends its frame. -/
theorem engineOperation_sends_frame {ok : Bool} (he : s.params.exposeEngine = true) (hc : s.configured = true)
    (hb : s.busy = false) (hok : ok = true) (hl : f.tx.length ≤ 6) : Sends f s (.next (engineOperation ok f s)) := by
  rw [hok, engineOperation_sends he hc hb]
  exact ⟨_, beginFrame_begun f s hl, rfl⟩

end

/-- R243: the host's address check is the comparison the statements write. -/
theorem registerInRange_eq (addr : Byte) : registerInRange addr = decide (addr.toNat ≤ 0x1F) := by
  rw [Bool.eq_iff_iff, registerInRange_iff, decide_eq_true_eq]

/-- An engine operation is the guarded `Begin` of some frame, its operand check being the statements' one. -/
theorem exec_engine_operation {i : Instr} (hi : isEngineOperation i = true) (s : State) :
    ∃ f, exec i s = .next (engineOperation (operandsInRange i) f s) := by
  cases i with
  | rRegister | wRegister | flushTx | flushRx | beginCommand => exact ⟨_, rfl⟩
  | beginWrite addr | beginRead addr => rw [operandsInRange, ← registerInRange_eq]; exact ⟨_, rfl⟩
  | _ => cases hi

/-- Settles O27: the guards pass, and `Begin` finds the outstanding frame. -/
theorem overlapIsRefused : Obligations.OverlapIsRefused := by
  intro i s hi hr he hc hb
  obtain ⟨f, hf⟩ := exec_engine_operation hi s
  rw [hf, hr, engineOperation_overlaps he hc hb]
  exact raise_violates .pvOverlap s

/-- Settles O28: each check up to the operands' answers ArgumentError, and none of them reads `busy`. -/
theorem operandsOutOfRangeAreRefused : Obligations.OperandsOutOfRangeAreRefused := by
  intro i s hi hr
  obtain ⟨f, hf⟩ := exec_engine_operation hi s
  rw [hf, hr, engineOperation_refuses_operands]
  rfl

/-! ## The frames sent -/

/-- A register address within range is an extended register number (R122, R243). -/
theorem exists_zeroExtend_eq {addr : Byte} (h : addr.toNat ≤ 0x1F) : ∃ reg : BitVec 5, reg.zeroExtend 8 = addr :=
  ⟨_, zeroExtend_extract h⟩

/-- Settles O24: W_REGISTER sends the write frame, and BEGIN_WRITE with an address in range is W_REGISTER. -/
theorem writeSendsItsFrame : Obligations.WriteSendsItsFrame := by
  intro addr reg bytes s he hc hb hn
  have hw (reg : BitVec 5) : Sends (writeFrame s.params reg bytes) s (exec (.wRegister reg bytes) s) :=
    engineOperation_sends_frame he hc hb ((lengthInRange_iff _).mpr hn) (Nat.succ_le_succ hn)
  refine ⟨fun ha => ?_, hw reg⟩
  obtain ⟨r, rfl⟩ := exists_zeroExtend_eq ha
  rw [(beginIsTheCommandFrame r 0 bytes s).2.1]
  exact hw r

/-- Settles O25: R_REGISTER sends the read frame, and BEGIN_READ with an address in range is R_REGISTER. -/
theorem readSendsItsFrame : Obligations.ReadSendsItsFrame := by
  intro addr reg n s he hc hb hn
  have hr (reg : BitVec 5) : Sends (readFrame s.params reg n.toNat) s (exec (.rRegister reg n) s) :=
    engineOperation_sends_frame he hc hb ((lengthInRange_iff _).mpr hn) (by simp [readFrame])
  refine ⟨fun ha => ?_, hr reg⟩
  obtain ⟨r, rfl⟩ := exists_zeroExtend_eq ha
  rw [(beginIsTheCommandFrame r n [] s).1]
  exact hr r

/-- Settles O26: FLUSH_TX and FLUSH_RX send their byte, and BEGIN_COMMAND with that byte is the flush. -/
theorem flushSendsItsByte : Obligations.FlushSendsItsByte := by
  intro cmd s he hc hb
  have htx : Sends ⟨[0xE1], 0⟩ s (exec .flushTx s) := engineOperation_sends_frame he hc hb rfl (by decide)
  have hrx : Sends ⟨[0xE2], 0⟩ s (exec .flushRx s) := engineOperation_sends_frame he hc hb rfl (by decide)
  obtain ⟨-, -, hbtx, hbrx⟩ := beginIsTheCommandFrame 0 0 [] s
  refine ⟨?_, htx, hrx⟩
  rintro (rfl | rfl)
  · rwa [hbtx]
  · rwa [hbrx]

/-! ## The engine's part of the state -/

/-- What the engine's rules speak of: its two flags, chip-select, the outgoing frame, the lengths, and the frames requested
and completed so far. -/
structure EngineView where
  busy : Bool
  ready : Bool
  cs : Bool
  txBuf : Six Byte
  txLen : Nat
  rxLen : Nat
  rxCount : Nat
  requests : Nat
  completions : Nat

/-- The engine's part of a state. -/
def engineView (s : State) : EngineView where
  busy := s.busy
  ready := s.ready
  cs := s.cs
  txBuf := s.txBuf
  txLen := s.txLen
  rxLen := s.rxLen
  rxCount := s.rxCount
  requests := requestCount s.port
  completions := completionCount s.port

section
variable {i : Instr} {s t : State}

/-- R241 and R250: an instruction leaves the engine alone, begins a frame on an idle engine, completes the outstanding one
as a NOTIFY_DONE, or clears an idle engine as a CONFIGURE. -/
theorem effect_engineView_cases (h : Effect i s t) :
    engineView t = engineView s ∨
      (s.busy = false ∧ ∃ f : Frame, f.tx.length ≤ 6 ∧ f.rxLen ≤ 6 ∧ engineView t = engineView (beginFrame f s)) ∨
      (isNotifyDone i = true ∧ s.busy = true ∧ ∃ b : List Byte, b.length ≤ s.rxLen ∧
        engineView t = engineView (completeFrame b s)) ∨
      (s.busy = false ∧ engineView t = engineView (clearSlate s)) := by
  cases h with
  | begun f _ _ _ hb hl hr => exact .inr (.inl ⟨hb, f, hl, hr, rfl⟩)
  | poweredOn _ _ _ hb => exact .inr (.inl ⟨hb, writeFrame s.params 0x00 [_], by simp [writeFrame], Nat.zero_le _, rfl⟩)
  | issued f _ _ _ hb hf =>
    obtain ⟨hl, hr⟩ := configFrame_length hf
    exact .inr (.inl ⟨hb, f, hl, by omega, rfl⟩)
  | statusRead _ _ hb => exact .inr (.inl ⟨hb, readFrame s.params 0x17 1, by simp [readFrame], by simp [readFrame], rfl⟩)
  | completed b hi _ hb hl => exact .inr (.inr (.inl ⟨hi ▸ rfl, hb, b, hl, rfl⟩))
  | badWidth _ hb | badPipes _ hb | configured _ _ _ _ hb => exact .inr (.inr (.inr ⟨hb, rfl⟩))
  | _ => exact .inl rfl

/-- R48 and R455: an instruction leaves `cfgStep` 0 outside Configure, since it counts on only in Configure and is zeroed on
leaving. -/
theorem effect_keeps_stepZero (h : Effect i s t) (hz : s.state ≠ stateCode .configure → s.cfgStep = 0) :
    t.state ≠ stateCode .configure → t.cfgStep = 0 := by
  have outside (x : LifecycleState) (hs : s.state = stateCode x) (hx : stateCode x ≠ stateCode .configure) :
      s.cfgStep = 0 := hz (hs ▸ hx)
  cases h with
  | badWidth | badPipes | configured | toConfigure | toSleep => exact fun _ => rfl
  | poweredOn _ hs | woken _ hs | interrupted _ hs | statusRead _ hs | statusDecoded _ hs =>
    exact fun _ => outside _ hs (by decide)
  | issued _ _ hs => exact fun hne => absurd hs hne
  | _ => exact hz

/-! ## The engine's invariant -/

/-- The invariant speaks of the engine's part and of `cfgStep` alone. -/
theorem EngineInv.of_engineView (h : EngineInv s) (hv : engineView t = engineView s)
    (hz : t.state ≠ stateCode .configure → t.cfgStep = 0) : EngineInv t := by
  simp only [engineView, EngineView.mk.injEq] at hv
  obtain ⟨hbusy, hready, hcs, -, htxLen, hrxLen, hcount, hreq, hcomp⟩ := hv
  constructor
  case busyLine => rw [hbusy, hready, hcs]; exact h.busyLine
  case idleLine => rw [hbusy, hcs]; exact h.idleLine
  case oneFrame => rw [hreq, hcomp, hbusy]; exact h.oneFrame
  case txFits => rw [htxLen]; exact h.txFits
  case rxFits => rw [hrxLen]; exact h.rxFits
  case countFits => rw [hcount]; exact h.countFits
  case countWithin => rw [hready, hcount, hrxLen]; exact h.countWithin
  case stepZero => exact hz

/-- Beginning a frame that fits on an idle engine makes it the one outstanding frame (R240, R251). -/
theorem EngineInv.afterBegin {f : Frame} (h : EngineInv s) (hb : s.busy = false) (hl : f.tx.length ≤ 6) (hr : f.rxLen ≤ 6) :
    EngineInv (beginFrame f s) := by
  have hone : requestCount s.port = completionCount s.port := by simpa [hb] using h.oneFrame
  constructor
  case busyLine => exact fun _ => ⟨rfl, rfl⟩
  case idleLine | countWithin => simp
  case oneFrame => simp [requestCount, completionCount, hone]
  case txFits => exact hl
  case rxFits => exact hr
  case countFits => exact h.countFits
  case stepZero => exact h.stepZero

/-- Completing the outstanding frame within its receive length leaves none (R345, R251). -/
theorem EngineInv.afterComplete {b : List Byte} (h : EngineInv s) (hb : s.busy = true) (hl : b.length ≤ s.rxLen) :
    EngineInv (completeFrame b s) := by
  have hone : requestCount s.port = completionCount s.port + 1 := by simpa [hb] using h.oneFrame
  constructor
  case busyLine => simp
  case idleLine => exact fun _ => rfl
  case oneFrame => simp [requestCount, completionCount, hone]
  case txFits => exact h.txFits
  case rxFits => exact h.rxFits
  case countFits => exact hl.trans h.rxFits
  case countWithin => exact fun _ => hl
  case stepZero => exact h.stepZero

/-- A bundle cleared on an idle engine leaves the released line and the equal counts (R201, R214). -/
theorem EngineInv.afterClear (h : EngineInv s) (hb : s.busy = false) : EngineInv (clearSlate s) := by
  have hone : requestCount s.port = completionCount s.port := by simpa [hb] using h.oneFrame
  constructor
  case busyLine | countWithin => simp [clearSlate, zeroBundle]
  case idleLine => exact fun _ => h.idleLine hb
  case oneFrame => exact hone
  case txFits | rxFits | countFits => exact Nat.zero_le _
  case stepZero => exact fun _ => rfl

theorem engineInv_reset : EngineInv State.reset := by constructor <;> decide

/-- Every instruction keeps the invariant. -/
theorem effect_keeps_engineInv (he : Effect i s t) (h : EngineInv s) : EngineInv t := by
  have hz := effect_keeps_stepZero he h.stepZero
  rcases effect_engineView_cases he with hv | ⟨hb, f, hl, hr, hv⟩ | ⟨_, hb, b, hl, hv⟩ | ⟨hb, hv⟩
  · exact h.of_engineView hv hz
  · exact (h.afterBegin hb hl hr).of_engineView hv hz
  · exact (h.afterComplete hb hl).of_engineView hv hz
  · exact (h.afterClear hb).of_engineView hv hz

end

/-- Settles O57: instructions keep the invariant, time and the agenda are no part of it, and power-on gives the engine of the
reset state. -/
theorem stepKeepsEngineInvariant : Obligations.StepKeepsEngineInvariant := by
  intro s t h hs
  rcases step_cases hs with rfl | ⟨i, a, hi⟩ | ⟨ms, a, _, rfl⟩ | ⟨a, rfl⟩
  case inl => exact h
  case inr.inl => exact effect_keeps_engineInv (exec_effect hi) (h.of_engineView rfl h.stepZero)
  case inr.inr.inl => exact h.of_engineView rfl h.stepZero
  case inr.inr.inr => exact engineInv_reset.of_engineView rfl fun _ => rfl

/-- Settles O2: no frame is outstanding after reset, and its bundle is zero with the default parameters. -/
theorem resetMeetsInvariants : Obligations.ResetMeetsInvariants :=
  ⟨engineInv_reset, cacheInv_of_zeroBundle legalParams_default.2 rfl⟩

/-- Settles O32: on a busy engine an instruction that is no NOTIFY_DONE leaves the engine's part alone. -/
theorem outstandingFrameIsStable : Obligations.OutstandingFrameIsStable := by
  intro i s t hb hn hi
  have hv : engineView t = engineView s := by
    rcases effect_engineView_cases (exec_effect hi) with hv | ⟨hidle, _⟩ | ⟨hdone, _⟩ | ⟨hidle, _⟩
    · exact hv
    · simp [hb] at hidle
    · simp [hn] at hdone
    · simp [hb] at hidle
  simp only [engineView, EngineView.mk.injEq] at hv
  obtain ⟨hbusy, hready, hcs, htxBuf, htxLen, hrxLen, -, hreq, -⟩ := hv
  exact ⟨hbusy.trans hb, hready, hcs, htxBuf, htxLen, hrxLen, hreq⟩

end Sys2Proof.Machine
end

section
/-! The lifecycle sequencer's statements, the handlers: what DRIVE does in each state, the graph its changes of state follow,
and who clears a request flag (43_lifecycle_sequencer.md). -/

namespace Sys2Proof.Machine

/-! ## The step of a DRIVE in progress -/

/-- R281: a DRIVE at a yield point takes the turn, unless an event acts at that point. -/
theorem nextTurn_of_driving {s : State} {sub : Submission} {rest : List Event} (hd : s.driving = true)
    (ha : s.agenda = [] ∨ s.agenda = .call sub :: rest) : nextTurn s = .run .drive s := by
  rcases ha with ha | ha
  · simp [nextTurn, ha, hd]
  · simp [nextTurn, ha, hd, waitsForDrive]

/-- Settles O4: the turn is the DRIVE's, in the state as it is. -/
theorem stepContinuesDrive : Obligations.StepContinuesDrive := fun _ _ _ hd ha => step_of_run (nextTurn_of_driving hd ha)

/-! ## Time -/

/-- Settles O16: the smaller number fits 64 bits, so nothing wraps around. -/
theorem deadlineAddSaturates : Obligations.DeadlineAddSaturates := by
  intro a b
  rw [satAdd64, BitVec.toNat_ofNat, Nat.mod_eq_of_lt (by omega)]

/-- A word of the saturated value is the saturating sum (R293). -/
theorem eq_satAdd64 {a b d : U64} (h : d.toNat = min (a.toNat + b.toNat) (2 ^ 64 - 1)) : d = satAdd64 a b :=
  BitVec.eq_of_toNat_eq (h.trans (deadlineAddSaturates a b).symm)

/-! ## DRIVE in each state (R280, R282) -/

section
variable {s : State}

/-- A DRIVE that begins in a lifecycle state is that state's handler. -/
theorem drive_eq_handlerOf {x : LifecycleState} (h : DriveReady s) (hx : s.state = stateCode x) :
    exec .drive s = .next (handlerOf x s) := by rw [drive_dispatches h, dispatchState_of hx]

/-- A DRIVE in Configure, new or at a yield point, is a pass of H_Configure. -/
theorem drive_eq_configurePass (hc : s.configured = true) (hi : s.params.includeSequencer = true)
    (hs : s.state = stateCode .configure) : exec .drive s = .next (configurePass s) := by
  cases hd : s.driving
  · exact drive_eq_handlerOf ⟨hc, hi, hd⟩ hs
  · simp [exec, execDrive, hi, hd]

/-! ### PowerOff (R290) -/

theorem handlePowerOff_of_no_request (hr : s.powerOnReq = false) : handlePowerOff s = returnCode .ok s := by
  simp [handlePowerOff, hr]

theorem handlePowerOff_of_busy (hr : s.powerOnReq = true) (hb : s.busy = true) :
    handlePowerOff s = raise .protocolViolation (some .pvOverlap) s := by simp [handlePowerOff, hr, hb]

theorem handlePowerOff_of_request (hr : s.powerOnReq = true) (hb : s.busy = false) : handlePowerOff s = poweredOn s := by
  simp only [handlePowerOff, hr, hb]
  rfl

/-- Settles O33: one equation of the handler per case; the byte and the deadline of the third are those it writes. -/
theorem powerOffHandler : Obligations.PowerOffHandler := by
  intro s hs hx
  rw [drive_eq_handlerOf hs hx, handlerOf]
  refine ⟨fun hr => ?_, fun hr hb => ?_, fun hr hb c d hc hd => ?_⟩
  · exact congrArg Host.Outcome.next (handlePowerOff_of_no_request hr)
  · rw [handlePowerOff_of_busy hr hb]
    exact raise_violates .pvOverlap s
  · rw [handlePowerOff_of_request hr hb, eq_satAdd64 hd, hc, ← powerOnUpdateIsMasked]
    exact ⟨_, beginFrame_begun (writeFrame s.params 0x00 [_]) _ (by simp [writeFrame]), rfl⟩

/-! ### ModuleStartup (R292) -/

theorem handleModuleStartup_of_settled (hr : s.ready = true) (ht : s.deadline ≤ s.now) :
    handleModuleStartup s = returnCode .ok (enter .configure { s with cfgStep := 0 }) :=
  if_pos ⟨hr, ht⟩

theorem handleModuleStartup_of_waiting (h : ¬ (s.ready = true ∧ s.deadline ≤ s.now)) :
    handleModuleStartup s = returnCode .ok s :=
  if_neg h

/-- Settles O34: the handler's guard and its negation, with the comparison of times as one of numbers. -/
theorem moduleStartupHandler : Obligations.ModuleStartupHandler := by
  intro s hs hx
  rw [drive_eq_handlerOf hs hx, handlerOf]
  refine ⟨fun hr ht => ?_, fun hw => ?_⟩
  · exact congrArg Host.Outcome.next (handleModuleStartup_of_settled hr (BitVec.le_def.mpr ht))
  · refine congrArg Host.Outcome.next (handleModuleStartup_of_waiting ?_)
    rintro ⟨hr, ht⟩
    rcases hw with hw | hw
    · simp [hr] at hw
    · exact absurd (BitVec.le_def.mp ht) (by omega)

/-! ### Configure (R295, R297, R298) -/

theorem configurePass_of_not_ready (hr : s.ready = false) : configurePass s = driveReturns .ok s := if_pos (.inr hr)

theorem configurePass_of_last (hs : s.state = stateCode .configure) (hr : s.ready = true) (hk : s.cfgStep = 11) :
    configurePass s = driveReturns .ok (enter .sleep { s with cfgStep := 0 }) := by
  have hf : configFrame s.params s.cache s.cfgStep = none := (configFrame_eq_none _ _ _).mpr hk
  simp [configurePass, hs, hr, hf]

theorem configurePass_of_frame {f : Frame} (hs : s.state = stateCode .configure) (hr : s.ready = true)
    (hb : s.busy = false) (hf : configFrame s.params s.cache s.cfgStep = some f) :
    configurePass s = driveYields { beginFrame f s with cfgStep := s.cfgStep + 1 } := by
  simp [configurePass, hs, hr, hb, hf]

/-- Settles O35: the three outcomes of a pass, its frame at `cfgStep` being the entry of the table of R297. -/
theorem configureHandler : Obligations.ConfigureHandler := by
  intro s hc hi hs
  rw [drive_eq_configurePass hc hi hs]
  refine ⟨fun hr => ?_, fun hr hk => ?_, fun hr hb k f hk hf => ?_⟩
  · exact congrArg Host.Outcome.next (configurePass_of_not_ready hr)
  · exact congrArg Host.Outcome.next (configurePass_of_last hs hr hk)
  · have hframe : configFrame s.params s.cache s.cfgStep = some f := by rw [configFrame_eq, hk, hf]
    rw [configurePass_of_frame hs hr hb hframe]
    exact ⟨_, beginFrame_begun f s (configFrame_length hframe).1, rfl⟩

/-- Settles O36: the only failing outcome of a pass needs a frame outstanding with readiness set, which (I-b) excludes. -/
theorem configureHandlerNeverFails : Obligations.ConfigureHandlerNeverFails := by
  intro s t hinv hc hi hs ht
  rw [drive_eq_configurePass hc hi hs] at ht
  cases ht
  rcases configurePass_cases s with h | ⟨_, _, _, h⟩ | ⟨_, hr, hb, _⟩ | ⟨_, _, _, f, _, h⟩
  · simp [h]
  · simp [h]
  · simp [(hinv.busyLine hb).1] at hr
  · simp [h]

/-! ### Sleep and Idle (R300, R301) -/

theorem handleSleep_of_wakeReq (hw : s.wakeReq = true) :
    handleSleep s = returnCode .ok (enter .idle (setCE true (clearWakeReq s))) :=
  if_pos hw

theorem handleSleep_of_no_wakeReq (hw : s.wakeReq = false) : handleSleep s = returnCode .ok s := by simp [handleSleep, hw]

theorem handleIdle_of_irqPending (hp : s.irqPending = true) :
    handleIdle s = returnCode .ok (enter .externalInterrupt (clearIrqPending s)) :=
  if_pos hp

theorem handleIdle_of_no_irqPending (hp : s.irqPending = false) : handleIdle s = returnCode .ok s := by
  simp [handleIdle, hp]

/-- Settles O37: each handler with its flag and without. -/
theorem sleepAndIdleHandlers : Obligations.SleepAndIdleHandlers := by
  intro s hs
  refine ⟨fun hx hw => ?_, fun hx hw => ?_, fun hx hp => ?_, fun hx hp => ?_⟩ <;> rw [drive_eq_handlerOf hs hx]
  · exact congrArg Host.Outcome.next (handleSleep_of_wakeReq hw)
  · exact congrArg Host.Outcome.next (handleSleep_of_no_wakeReq hw)
  · exact congrArg Host.Outcome.next (handleIdle_of_irqPending hp)
  · exact congrArg Host.Outcome.next (handleIdle_of_no_irqPending hp)

/-! ### ExternalInterrupt (R305) -/

theorem handleExternalInterrupt_of_busy (hb : s.busy = true) :
    handleExternalInterrupt s = raise .protocolViolation (some .pvOverlap) s :=
  if_pos hb

theorem handleExternalInterrupt_of_idle (hb : s.busy = false) : handleExternalInterrupt s =
    returnCode .ok (enter .statusReading (beginFrame (readFrame s.params 0x17 1) s)) := by
  simp [handleExternalInterrupt, hb]

/-- Settles O38: on an idle engine the handler begins the read of FIFO_STATUS. -/
theorem externalInterruptHandler : Obligations.ExternalInterruptHandler := by
  intro s hs hx
  rw [drive_eq_handlerOf hs hx, handlerOf]
  refine ⟨fun hb => ?_, fun hb => ?_⟩
  · rw [handleExternalInterrupt_of_busy hb]
    exact raise_violates .pvOverlap s
  · rw [handleExternalInterrupt_of_idle hb]
    exact ⟨_, beginFrame_begun (readFrame s.params 0x17 1) s (by simp [readFrame]), rfl⟩

/-! ### StatusReading (R306, R308, R309) -/

theorem handleStatusReading_of_not_ready (hr : s.ready = false) : handleStatusReading s = returnCode .ok s := by
  simp [handleStatusReading, hr]

theorem handleStatusReading_of_short (hr : s.ready = true) (hn : s.rxCount < 2) :
    handleStatusReading s = raise .ok (some .shortResponse) s := by
  simp [handleStatusReading, hr, hn]

theorem handleStatusReading_of_received (hr : s.ready = true) (hn : 2 ≤ s.rxCount) : handleStatusReading s =
    returnCode .ok (enter (nextAfterStatus s.params.nextAfterStatus s.rxBuf.c0 s.rxBuf.c1)
      { s with cache := { s.cache with status := s.rxBuf.c0, fifoStatus := s.rxBuf.c1 } }) := by
  simp [handleStatusReading, hr, Nat.not_lt.mpr hn]

/-- Settles O39: one equation of the handler per case; a short response adds its reason to the record. -/
theorem statusReadingHandler : Obligations.StatusReadingHandler := by
  intro s hs hx
  rw [drive_eq_handlerOf hs hx, handlerOf]
  refine ⟨fun hr => ?_, fun hr hn => ?_, fun hr hn => ?_⟩
  · exact congrArg Host.Outcome.next (handleStatusReading_of_not_ready hr)
  · rw [handleStatusReading_of_short hr hn]
    exact ⟨addFault .shortResponse s.faults, hasFault_addFault s.faults .shortResponse, rfl⟩
  · exact congrArg Host.Outcome.next (handleStatusReading_of_received hr hn)

/-! ### The reserved states (R312, R313) -/

/-- The codes 7 to 11 are reserved states and 12 to 15 name none, so no handler acts on them. -/
theorem dispatchState_of_reserved (h : 7 ≤ s.state.toNat) : dispatchState s = returnCode .ok s := by
  cases hx : lifecycleOf s.state with
  | none => simp only [dispatchState, hx]
  | some x =>
    have hs := lifecycleOf_eq_some hx
    rw [dispatchState_of hs]
    rw [hs] at h
    cases x with
    | receive | receiving | transmit | transmitting | poweringOff => rfl
    | _ => exact absurd h (by decide)

/-- Settles O40: the dispatch returns OK at once. -/
theorem reservedStatesAreNoOps : Obligations.ReservedStatesAreNoOps := by
  intro s hs h
  rw [drive_dispatches hs, dispatchState_of_reserved h]
  rfl

end

/-! ## The transition graph (R315) -/

section
variable {i : Instr} {s t : State}

/-- DRIVE keeps the lifecycle state or takes a row of the graph. -/
theorem drive_state_cases (h : Effect .drive s t) : t.state = s.state ∨ Transition s t.state := by
  cases h with
  | badWidth hi | badPipes hi | configured _ _ _ hi => cases hi
  | poweredOn _ hs hr hb => exact .inr (.powerOff hs hr hb)
  | toConfigure _ hs hr ht => exact .inr (.moduleStartup hs hr ht)
  | toSleep _ hs hr hk => exact .inr (.configure hs hr hk)
  | woken _ hs hw => exact .inr (.sleep hs hw)
  | interrupted _ hs hp => exact .inr (.idle hs hp)
  | statusRead _ hs hb => exact .inr (.externalInterrupt hs hb)
  | statusDecoded _ hs hr hn => exact .inr (.statusReading hs hr hn)
  | _ => left; simp

/-! ## The request flags (R314) -/

/-- No request flag set in `s` is clear in `t`. -/
structure KeepsRequests (s t : State) : Prop where
  powerOn : s.powerOnReq = true → t.powerOnReq = true
  wake : s.wakeReq = true → t.wakeReq = true
  sleep : s.sleepReq = true → t.sleepReq = true
  irq : s.irqPending = true → t.irqPending = true

/-- An instruction other than CONFIGURE keeps every request, or is a DRIVE that consumes the one of its state. -/
theorem effect_requests_cases (h : Effect i s t) (hc : isConfigure i = false) :
    KeepsRequests s t ∨
      (i = .drive ∧ s.state = stateCode .powerOff ∧ KeepsRequests { s with powerOnReq := false } t) ∨
      (i = .drive ∧ s.state = stateCode .sleep ∧ KeepsRequests { s with wakeReq := false } t) ∨
      (i = .drive ∧ s.state = stateCode .idle ∧ KeepsRequests { s with irqPending := false } t) := by
  cases h with
  | badWidth hi | badPipes hi => simp [hi] at hc
  | configured _ _ _ hi => simp [hi, isConfigure] at hc
  | poweredOn hi hs => exact .inr (.inl ⟨hi, hs, id, id, id, id⟩)
  | woken hi hs => exact .inr (.inr (.inl ⟨hi, hs, id, id, id, id⟩))
  | interrupted hi hs => exact .inr (.inr (.inr ⟨hi, hs, id, id, id, id⟩))
  | _ => left; constructor <;> simp

/-- R314: a CONFIGURE that is not refused as busy leaves no request. -/
theorem configure_clears_requests (aw : Byte) (pipes : Six PipeRecord) (hb : s.busy = false)
    (h : exec (.configure aw pipes) s = .next t) :
    t.powerOnReq = false ∧ t.wakeReq = false ∧ t.sleepReq = false ∧ t.irqPending = false := by
  cases h
  rcases configure_cases aw pipes s with ⟨hbusy, _⟩ | ⟨_, _, ht⟩ | ⟨_, _, _, ht⟩ | ⟨_, _, c, _, ht⟩
  · simp [hb] at hbusy
  all_goals rw [ht]; exact ⟨rfl, rfl, rfl, rfl⟩

theorem exists_configure_of_isConfigure (h : isConfigure i = true) : ∃ aw pipes, i = .configure aw pipes := by
  cases i with
  | configure aw pipes => exact ⟨aw, pipes, rfl⟩
  | _ => cases h

end

/-- Settles O41: the kept state is no change, and every other case is a row of the graph. -/
theorem driveFollowsTheTransitionGraph : Obligations.DriveFollowsTheTransitionGraph := by
  intro s t h hne
  exact (drive_state_cases (exec_effect h)).resolve_left hne

/-- Settles O50: a flag that is lost is none of those kept, so the DRIVE is that of its consumer. -/
theorem requestFlagConsumers : Obligations.RequestFlagConsumers := by
  intro i s t h
  refine ⟨fun hc hb => ?_, fun hc => ?_⟩
  · obtain ⟨aw, pipes, rfl⟩ := exists_configure_of_isConfigure hc
    exact configure_clears_requests aw pipes hb h
  rcases effect_requests_cases (exec_effect h) hc with hk | ⟨hi, hs, hk⟩ | ⟨hi, hs, hk⟩ | ⟨hi, hs, hk⟩ <;>
    obtain ⟨hpower, hwake, hsleep, hirq⟩ := hk
  · simp +contextual [hpower, hwake, hsleep, hirq]
  · exact ⟨fun _ _ => ⟨hi, hs⟩, by simp +contextual [hwake], by simp +contextual [hirq], hsleep⟩
  · exact ⟨by simp +contextual [hpower], fun _ _ => ⟨hi, hs⟩, by simp +contextual [hirq], hsleep⟩
  · exact ⟨by simp +contextual [hpower], by simp +contextual [hwake], fun _ _ => ⟨hi, hs⟩, hsleep⟩

end Sys2Proof.Machine
end

section
/-! The lifecycle sequencer's run from PowerOff to Sleep (R317): the steps up to Configure, then one completion and one pass of
H_Configure for each frame of the configure sequence. -/

namespace Sys2Proof.Machine

/-! ## Steps of a schedule -/

/-- The state with the events that are left. -/
def scheduled (rest : List Event) (s : State) : State := { s with agenda := rest }

section
variable {s t u : State} {i : Instr} {rest : List Event}

theorem run_two (h : step s = .next u) (h' : step u = .next t) : Sys2Proof.core.run 2 s = .next t :=
  (run_add (b := 1) (run_one h)).trans (run_one h')

/-- A call of a well-formed instruction runs when no DRIVE is in progress. -/
theorem step_of_call (hw : WellFormed i = true) (hd : s.driving = false) (ha : s.agenda = .call (encode i) :: rest)
    (h : exec i (scheduled rest s) = .next t) : step s = .next t :=
  ((stepRunsDecodedSubmission s _ rest i (decodeEncode i hw)).1 ha hd).trans h

/-- A well-formed instruction at a yield point runs in any case. -/
theorem step_of_atYield (hw : WellFormed i = true) (ha : s.agenda = .atYield (encode i) :: rest)
    (h : exec i (scheduled rest s) = .next t) : step s = .next t :=
  ((stepRunsDecodedSubmission s _ rest i (decodeEncode i hw)).2 ha).trans h

/-- R424: a time event that does not go back is a step. -/
theorem step_of_time {ms : U64} (ht : s.now.toNat ≤ ms.toNat) (ha : s.agenda = .time ms :: rest) :
    step s = .next { scheduled rest s with now := ms, result := none } := by
  have hturn : nextTurn s = moveTime ms (scheduled rest s) := nextTurn_of_event ha (Bool.and_false _)
  have hle : (scheduled rest s).now ≤ ms := BitVec.le_def.mpr ht
  simp only [step, hturn, moveTime, hle, if_true]

/-- R340: a power-on request. -/
theorem step_reqPowerOn (hc : s.configured = true) (hd : s.driving = false)
    (ha : s.agenda = .call (encode .reqPowerOn) :: rest) :
    step s = .next (returnCode .ok (setPowerOnReq (scheduled rest s))) :=
  step_of_call rfl hd ha (congrArg Host.Outcome.next (hostOperation_acts rfl hc))

/-- R345: a completion without bytes fits every outstanding frame. -/
theorem exec_notifyDone_nil (hc : s.configured = true) (hb : s.busy = true) :
    exec (.notifyDone []) s = .next (returnCode .ok (completeFrame [] s)) := by
  have hact : notifyDone [] s = returnCode .ok (completeFrame [] s) := by simp [notifyDone, hb]
  exact congrArg Host.Outcome.next ((hostOperation_acts rfl hc).trans hact)

/-- R290: a DRIVE that consumes the power-on request. -/
theorem exec_drive_of_powerOnReq (hs : DriveReady s) (hx : s.state = stateCode .powerOff) (hr : s.powerOnReq = true)
    (hb : s.busy = false) : exec .drive s = .next (poweredOn s) := by
  rw [drive_eq_handlerOf hs hx, handlerOf, handlePowerOff_of_request hr hb]

/-! ## From PowerOff to Configure (R290, R292) -/

/-- The power-on request, the DRIVE that consumes it, and the completion of its frame. -/
theorem run_to_moduleStartup (hs : DriveReady s) (hb : s.busy = false) (hx : s.state = stateCode .powerOff)
    (ha : s.agenda = .call (encode .reqPowerOn) :: .call (encode .drive) :: .call (encode (.notifyDone [])) :: rest) :
    Sys2Proof.core.run 3 s = .next (returnCode .ok (completeFrame [] (scheduled rest (poweredOn s)))) := by
  obtain ⟨hc, hi, hd⟩ := hs
  have hrequest := step_reqPowerOn hc hd ha
  have hbegun : step (returnCode .ok
        (setPowerOnReq (scheduled (.call (encode .drive) :: .call (encode (.notifyDone [])) :: rest) s))) =
      .next (scheduled (.call (encode (.notifyDone [])) :: rest) (poweredOn s)) :=
    step_of_call rfl hd rfl (exec_drive_of_powerOnReq ⟨hc, hi, hd⟩ hx rfl hb)
  have hdone : step (scheduled (.call (encode (.notifyDone [])) :: rest) (poweredOn s)) =
      .next (returnCode .ok (completeFrame [] (scheduled rest (poweredOn s)))) :=
    step_of_call rfl hd rfl (exec_notifyDone_nil hc rfl)
  exact (run_add (b := 1) (run_two hrequest hbegun)).trans (run_one hdone)

/-- The time comes to the deadline, and the DRIVE enters Configure. -/
theorem run_to_configure {ms : U64} (hs : DriveReady s) (hx : s.state = stateCode .moduleStartup) (hr : s.ready = true)
    (hnow : s.now.toNat ≤ ms.toNat) (hdl : s.deadline.toNat ≤ ms.toNat)
    (ha : s.agenda = .time ms :: .call (encode .drive) :: rest) :
    Sys2Proof.core.run 2 s = .next
      { scheduled rest s with now := ms, cfgStep := 0, state := stateCode .configure, result := some .ok } := by
  have ⟨_, _, hd⟩ := hs
  obtain ⟨henter, -⟩ := moduleStartupHandler { scheduled rest s with now := ms, result := none } hs hx
  exact run_two (step_of_time hnow ha) (step_of_call rfl hd rfl (henter hr hdl))

end

/-! ## The configure sequence (R295, R297) -/

/-- In Configure with `k` frames of the sequence `seq` requested after those of `base`, and the fault record `r`. -/
structure Configuring (seq base : List Frame) (r : FaultRecord) (k : Nat) (s : State) : Prop where
  configured : s.configured = true
  included : s.params.includeSequencer = true
  sequence : configureSequence s.params s.cache = seq
  state : s.state = stateCode .configure
  cfgStep : s.cfgStep.val = k
  faults : s.faults = r
  frames : framesOf s.port = (seq.take k).reverse ++ base

/-- In Sleep with the sequence `seq` requested after the frames of `base`, the DRIVE returned and the schedule at its end. -/
structure Asleep (seq base : List Frame) (r : FaultRecord) (s : State) : Prop where
  state : s.state = stateCode .sleep
  driving : s.driving = false
  busy : s.busy = false
  result : s.result = some .ok
  faults : s.faults = r
  agenda : s.agenda = []
  frames : framesOf s.port = seq.reverse ++ base

/-- A frame completes at the yield point, and the DRIVE takes its next pass. -/
def completeThenDrive : List Event := [.atYield (encode (.notifyDone [])), .atYield (encode .drive)]

theorem configureSequence_length (p : Params) (c : Cache) : (configureSequence p c).length = 11 := rfl

section
variable {seq base : List Frame} {r : FaultRecord} {k : Nat} {s : State} {rest : List Event}
variable (h : Configuring seq base r k s)
include h

theorem Configuring.length : seq.length = 11 := h.sequence ▸ configureSequence_length s.params s.cache

/-- The schedule is no part of it. -/
theorem Configuring.scheduled (rest : List Event) : Configuring seq base r k (scheduled rest s) :=
  ⟨h.configured, h.included, h.sequence, h.state, h.cfgStep, h.faults, h.frames⟩

/-- A completion requests no frame. -/
theorem Configuring.afterComplete (b : List Byte) : Configuring seq base r k (returnCode .ok (completeFrame b s)) :=
  ⟨h.configured, h.included, h.sequence, h.state, h.cfgStep, h.faults, h.frames⟩

/-- R297: before step 11 a pass requests the next frame of the sequence. -/
theorem Configuring.exec_drive (hk : k < 11) (hr : s.ready = true) (hb : s.busy = false) :
    ∃ t, exec .drive s = .next t ∧ Configuring seq base r (k + 1) t ∧ t.busy = true ∧ t.agenda = s.agenda := by
  have hlen : k < seq.length := h.length ▸ hk
  have hf : configFrame s.params s.cache s.cfgStep = some seq[k] := by
    rw [configFrame_eq, h.sequence, h.cfgStep, List.getElem?_eq_getElem hlen]
  have hstep : (s.cfgStep + 1).val = k + 1 := by
    rw [Fin.val_add_one_of_lt' (by rw [h.cfgStep]; omega), h.cfgStep]
  have hframes : seq[k] :: framesOf s.port = (seq.take (k + 1)).reverse ++ base := by
    rw [h.frames, List.take_succ_eq_append_getElem hlen, List.reverse_append]
    rfl
  refine ⟨driveYields { beginFrame seq[k] s with cfgStep := s.cfgStep + 1 }, ?_, ?_, rfl, rfl⟩
  · rw [drive_eq_configurePass h.configured h.included h.state, configurePass_of_frame h.state hr hb hf]
  · exact ⟨h.configured, h.included, h.sequence, h.state, hstep, h.faults, hframes⟩

/-- The outstanding frame completes at the yield point. -/
theorem Configuring.step_completes (hb : s.busy = true) (ha : s.agenda = .atYield (encode (.notifyDone [])) :: rest) :
    step s = .next (returnCode .ok (completeFrame [] (Machine.scheduled rest s))) :=
  step_of_atYield rfl ha (exec_notifyDone_nil h.configured hb)

/-- One round of the sequence: a frame completes and the next one is requested. -/
theorem Configuring.run_round (hk : k < 11) (hb : s.busy = true) (ha : s.agenda = completeThenDrive ++ rest) :
    ∃ t, Sys2Proof.core.run 2 s = .next t ∧ Configuring seq base r (k + 1) t ∧ t.busy = true ∧ t.agenda = rest := by
  have hdone := (h.scheduled (.atYield (encode .drive) :: rest)).afterComplete []
  obtain ⟨t, ht, hnext, hbusy, hag⟩ := (hdone.scheduled rest).exec_drive hk rfl rfl
  exact ⟨t, run_two (h.step_completes hb ha) (step_of_atYield rfl rfl ht), hnext, hbusy, hag⟩

/-- The last round: the eleventh frame completes and the pass enters Sleep. -/
theorem Configuring.run_last_round (hk : k = 11) (hb : s.busy = true) (ha : s.agenda = completeThenDrive) :
    ∃ t, Sys2Proof.core.run 2 s = .next t ∧ Asleep seq base r t := by
  have hstep : s.cfgStep = 11 := Fin.ext (h.cfgStep.trans hk)
  have hframes : framesOf s.port = seq.reverse ++ base := by
    rw [h.frames, List.take_of_length_le (by rw [h.length, hk])]
  have hdone := (h.scheduled [.atYield (encode .drive)]).afterComplete []
  obtain ⟨-, hlast, -⟩ := configureHandler _ (hdone.scheduled []).configured h.included h.state
  exact ⟨_, run_two (h.step_completes hb ha) (step_of_atYield rfl rfl (hlast rfl hstep)),
    rfl, rfl, rfl, rfl, h.faults, rfl, hframes⟩

end

/-- With one frame outstanding and `n` still to request, `n + 1` rounds end in Sleep. -/
theorem Configuring.run_to_sleep {seq base : List Frame} {r : FaultRecord} (n : Nat) {k : Nat} {s : State}
    (h : Configuring seq base r k s) (hk : k + n = 11) (hb : s.busy = true)
    (ha : s.agenda = (List.replicate (n + 1) completeThenDrive).flatten) :
    ∃ t, Sys2Proof.core.run (2 * (n + 1)) s = .next t ∧ Asleep seq base r t := by
  induction n generalizing k s with
  | zero => exact h.run_last_round hk hb ha
  | succ n ih =>
    obtain ⟨u, hu, hnext, hbusy, hag⟩ := h.run_round (by omega) hb ha
    obtain ⟨t, ht, hsleep⟩ := ih hnext (by omega) hbusy hag
    refine ⟨t, ?_, hsleep⟩
    rw [show 2 * (n + 1 + 1) = 2 + 2 * (n + 1) by omega]
    exact (run_add hu).trans ht

/-! ## The whole run (R317) -/

/-- The frame of H_PowerOff as the statement writes it: `OP_WRITE | 0x00`, then CONFIG updated under its mask (R161, R290). -/
theorem powerOnFrame_eq (p : Params) (b : Byte) : writeFrame p 0x00 [powerOnConfig p.powerOnIrqMask b] =
    ⟨[p.opWrite ||| 0x00, (b &&& ~~~0x73#8) ||| (0x03#8 ||| (p.powerOnIrqMask.zeroExtend 8 <<< 4))], 0⟩ := by
  rw [powerOnUpdateIsMasked]
  rfl

/-- From PowerOff, five steps send the power-on frame and lead to Configure with its sequence still to send. -/
theorem run_to_configuring {s : State} {ms : U64} {rest : List Event} (hs : DriveReady s) (hb : s.busy = false)
    (hx : s.state = stateCode .powerOff)
    (ha : s.agenda = .call (encode .reqPowerOn) :: .call (encode .drive) :: .call (encode (.notifyDone [])) :: .time ms ::
      .call (encode .drive) :: rest)
    (hnow : s.now.toNat ≤ ms.toNat)
    (hdl : min (s.now.toNat + s.params.startupSettleMs.toNat) (2 ^ 64 - 1) ≤ ms.toNat) :
    ∃ t, Sys2Proof.core.run 5 s = .next t ∧
      Configuring (configureSequence s.params s.cache)
        (writeFrame s.params 0x00 [powerOnConfig s.params.powerOnIrqMask s.cache.config] :: framesOf s.port) s.faults 0 t ∧
      t.ready = true ∧ t.busy = false ∧ t.driving = false ∧ t.agenda = rest := by
  have hdeadline : (satAdd64 s.now s.params.startupSettleMs).toNat ≤ ms.toNat := by rwa [deadlineAddSaturates]
  have hstarted := run_to_moduleStartup hs hb hx ha
  have hentered := run_to_configure
    (s := returnCode .ok (completeFrame [] (scheduled (.time ms :: .call (encode .drive) :: rest) (poweredOn s))))
    hs rfl rfl hnow hdeadline rfl
  obtain ⟨hc, hi, hd⟩ := hs
  exact ⟨_, (run_add (b := 2) hstarted).trans hentered, ⟨hc, hi, rfl, rfl, rfl, rfl, rfl⟩, rfl, rfl, hd, rfl⟩

/-- Settles O59: after the five steps to Configure the third DRIVE sends the first frame of the sequence, and eleven rounds
follow. -/
theorem threeDrivesReachSleep : Obligations.ThreeDrivesReachSleep := by
  intro s ms hs hb hx ha hnow hdl
  obtain ⟨v, hv, h0, hready, hidle, hd, hav⟩ := run_to_configuring hs hb hx ha hnow hdl
  obtain ⟨u, hu, h1, hbusy, hau⟩ := (h0.scheduled (List.replicate 11 completeThenDrive).flatten).exec_drive
    (by decide) hready hidle
  obtain ⟨t, ht, hsleep⟩ := h1.run_to_sleep 10 rfl hbusy hau
  have hrun : Sys2Proof.core.run 28 s = .next t :=
    calc Sys2Proof.core.run 28 s
      _ = Sys2Proof.core.run 23 v := run_add (b := 23) hv
      _ = Sys2Proof.core.run 22 u := run_add (b := 22) (run_one (step_of_call rfl hd hav hu))
      _ = .next t := ht
  exact ⟨t, hrun, hsleep.state, hsleep.driving, hsleep.busy, hsleep.result, hsleep.faults, hsleep.agenda,
    powerOnFrame_eq s.params s.cache.config ▸ hsleep.frames⟩

end Sys2Proof.Machine
end

section
/-! The host port's statements: the completion of a frame, the operations that are refused, and the request flags
(44_host_port.md). -/

namespace Sys2Proof.Machine

section
variable {act : State → State} {enabled : Bool} {bytes : List Byte} {s : State}

/-! ## The guards (R402, R410) -/

/-- Past the guard that every enabled host operation has, it acts. -/
theorem next_hostOperation_acts (hc : s.configured = true) :
    (.next (hostOperation true act s) : Host.Outcome State Fault Refusal) = .next (act s) :=
  congrArg Host.Outcome.next (hostOperation_acts rfl hc)

/-- A guard that fails is what the statements call `RaisesOnly`. -/
theorem hostOperation_raisesOnly (h : enabled = false ∨ s.configured = false) :
    RaisesOnly .argumentError s (.next (hostOperation enabled act s)) :=
  congrArg Host.Outcome.next (hostOperation_refuses h)

/-! ## NOTIFY_DONE (R345) -/

theorem notifyDone_of_not_busy (hb : s.busy = false) :
    notifyDone bytes s = raise .protocolViolation (some .pvSpuriousDone) s := by
  simp [notifyDone, hb]

theorem notifyDone_of_overlength (hb : s.busy = true) (hl : s.rxLen < bytes.length) :
    notifyDone bytes s = raise .protocolViolation (some .pvOverlength) s := by
  simp [notifyDone, hb, hl]

theorem notifyDone_of_fits (hb : s.busy = true) (hl : bytes.length ≤ s.rxLen) :
    notifyDone bytes s = returnCode .ok (completeFrame bytes s) := by
  simp [notifyDone, hb, Nat.not_lt.mpr hl]

theorem exec_notifyDone_of_configured (hc : s.configured = true) :
    exec (.notifyDone bytes) s = .next (notifyDone bytes s) :=
  next_hostOperation_acts hc

end

/-- Settles O45: past the guard the three cases of R345, and a completion within `BUF_CAP` overwrites the front of the
buffer. -/
theorem completionEndsTheFrame : Obligations.CompletionEndsTheFrame := by
  intro bytes s
  refine ⟨fun hc hb hl hcap => ?completed, fun hc => hostOperation_raisesOnly (.inr hc), fun hc hb => ?spurious,
    fun hc hb hl => ?overlength⟩
  case completed =>
    refine ⟨overwrite s.rxBuf bytes, overwrite_bytes s.rxBuf bytes (hl.trans hcap), ?_⟩
    rw [exec_notifyDone_of_configured hc, notifyDone_of_fits hb hl]
    rfl
  case spurious =>
    rw [exec_notifyDone_of_configured hc, notifyDone_of_not_busy hb]
    exact raise_violates .pvSpuriousDone s
  case overlength =>
    rw [exec_notifyDone_of_configured hc, notifyDone_of_overlength hb hl]
    exact raise_violates .pvOverlength s

/-! ## Reserved and disabled operations (R347, R402) -/

/-- An engine that is not exposed refuses its operations before their operands are looked at, configured or not. -/
theorem engineOperation_of_not_exposed {ok : Bool} {f : Frame} {s : State} (he : s.params.exposeEngine = false) :
    RaisesOnly .argumentError s (.next (engineOperation ok f s)) :=
  hostOperation_raisesOnly (.inl he)

/-- R21: without a sequencer there is no DRIVE, whatever `driving` says. -/
theorem drive_of_no_sequencer {s : State} (hi : s.params.includeSequencer = false) :
    exec .drive s = .next (hostOperation false dispatchState s) := by
  simp [exec, execDrive, hi]

/-- Settles O29: a reserved code is the bare error, and a disabled operation fails the first guard. -/
theorem reservedAndDisabledOperationsAreRefused : Obligations.ReservedAndDisabledOperationsAreRefused := by
  intro i s
  refine ⟨rfl, rfl, rfl, rfl, rfl, rfl, fun hi he => ?engine, fun hi => ?drive⟩
  case engine =>
    obtain ⟨f, hf⟩ := exec_engine_operation hi s
    exact hf ▸ engineOperation_of_not_exposed he
  case drive =>
    exact drive_of_no_sequencer hi ▸ hostOperation_raisesOnly (.inl rfl)

/-! ## Requests and the interrupt notification (R340 to R343) -/

/-- Settles O44: each of the four is its flag's update behind the guard. -/
theorem requestsSetTheirFlag : Obligations.RequestsSetTheirFlag := by
  intro s
  constructor
  · intro hc
    exact ⟨next_hostOperation_acts hc, next_hostOperation_acts hc, next_hostOperation_acts hc, next_hostOperation_acts hc⟩
  · intro hc
    have hrefused {act : State → State} : RaisesOnly .argumentError s (.next (hostOperation true act s)) :=
      hostOperation_raisesOnly (.inr hc)
    exact ⟨hrefused, hrefused, hrefused, hrefused⟩

end Sys2Proof.Machine
end

section
/-! The exceptions file's statements: which results come with which changes of the state, what becomes of the fault record,
the refusals of an unconfigured block, and the environment's events (60_exceptions.md). -/

namespace Sys2Proof.Machine

section
variable {i : Instr} {s t : State}

/-! ## Results (R400 to R405, R412) -/

/-- The states an instruction ends in, sorted by their result: OK or none for a DRIVE that yields, or one of the error
entries of R401 to R404. -/
theorem effect_result_cases (h : Effect i s t) :
    (t.result = none ∨ t.result = some .ok) ∨ t = raise .argumentError none s ∨
      (∃ f d, t = raise .protocolViolation (some f) { s with driving := d }) ∨
      (isConfigure i = true ∧ ∃ e, t = raise e none (clearSlate s) ∧ (e = .invalidAddressWidth ∨ e = .invalidP2P5Address)) := by
  cases h with
  | argumentError => exact .inr (.inl rfl)
  | overlap | spurious | overlength | configureBusy => exact .inr (.inr (.inl ⟨_, s.driving, rfl⟩))
  | driveOverlap => exact .inr (.inr (.inl ⟨_, false, rfl⟩))
  | badWidth hi => exact .inr (.inr (.inr ⟨hi, _, rfl, .inl rfl⟩))
  | badPipes hi => exact .inr (.inr (.inr ⟨hi, _, rfl, .inr rfl⟩))
  | issued => exact .inl (.inl rfl)
  | _ => exact .inl (.inr rfl)

/-! ## The fault record (R407) -/

/-- R52: an instruction adds one reason to the record, or none. -/
theorem effect_faults_cases (h : Effect i s t) : ∃ why, t.faults = recordFault why s.faults := by
  cases h with
  | overlap | spurious | overlength | configureBusy | driveOverlap | shortResponse => exact ⟨_, raise_faults _ _ _⟩
  | _ => exact ⟨none, rfl⟩

theorem hasFault_noFaults (g : FaultReason) : hasFault noFaults g = false := by cases g <;> rfl

/-- A record that a reason was added to is not empty. -/
theorem addFault_ne_noFaults (f : FaultReason) (r : FaultRecord) : addFault f r ≠ noFaults := by
  intro h
  have hf : hasFault (addFault f r) f = true := by simp [hasFault_addFault]
  rw [h, hasFault_noFaults] at hf
  cases hf

theorem recordFault_eq_noFaults {why : Option FaultReason} {r : FaultRecord} (h : recordFault why r = noFaults) :
    r = noFaults := by
  cases why with
  | none => exact h
  | some f => exact absurd h (addFault_ne_noFaults f r)

end

/-- Settles O46: of the ways to end, one returns each of the two errors, and it is `raise` on the state before. -/
theorem errorsArePrecise : Obligations.ErrorsArePrecise := by
  intro i s t h
  rcases effect_result_cases (exec_effect h) with hok | rfl | ⟨f, d, rfl⟩ | ⟨_, e, rfl, he⟩
  · rcases hok with hr | hr <;> simp [hr]
  · exact ⟨nofun, fun _ => rfl⟩
  · exact ⟨fun _ => rfl, nofun⟩
  · rcases he with rfl | rfl <;> exact ⟨nofun, nofun⟩

/-- Settles O47: the two results are those of `raise` on the clear slate, which CONFIGURE alone reaches. -/
theorem configErrorsClearTheSlate : Obligations.ConfigErrorsClearTheSlate := by
  intro i s t h hr
  rcases effect_result_cases (exec_effect h) with hok | rfl | ⟨f, d, rfl⟩ | ⟨hi, e, rfl, _⟩
  · rcases hok with hok | hok <;> simp [hok] at hr
  · simp at hr
  · simp at hr
  · exact ⟨hi, rfl, rfl⟩

/-- Settles O52: the record after an instruction is the one before with at most one reason added. -/
theorem faultsAreNeverRemoved : Obligations.FaultsAreNeverRemoved := by
  intro i s t g h hg
  obtain ⟨why, ht⟩ := effect_faults_cases (exec_effect h)
  exact ht ▸ recordFault_keeps why s.faults g hg

/-- Settles O53: an instruction does not empty the record, and a violation adds its reason to it. -/
theorem cleanRunsHaveNoViolation : Obligations.CleanRunsHaveNoViolation := by
  intro i s t h hclean
  constructor
  · obtain ⟨why, ht⟩ := effect_faults_cases (exec_effect h)
    exact recordFault_eq_noFaults (ht.symm.trans hclean)
  · intro hr
    rcases effect_result_cases (exec_effect h) with hok | rfl | ⟨f, d, rfl⟩ | ⟨_, e, rfl, he⟩
    · rcases hok with hok | hok <;> simp [hok] at hr
    · simp at hr
    · exact addFault_ne_noFaults f s.faults hclean
    · rcases he with rfl | rfl <;> simp at hr

/-! ## The unconfigured block (R402, R453) -/

/-- R280: a new DRIVE is a guarded host operation. -/
theorem drive_of_not_driving {s : State} (hd : s.driving = false) :
    exec .drive s = .next (hostOperation s.params.includeSequencer dispatchState s) := by
  simp [exec, execDrive, hd]

/-- Settles O30: a reserved code raises the error at once, and every other instruction stands behind the guard that an
unconfigured block fails. -/
theorem unconfiguredOperationsAreRefused : Obligations.UnconfiguredOperationsAreRefused := by
  intro i s hi hc hd
  have hrefused {enabled : Bool} {act : State → State} :
      RaisesOnly .argumentError s (.next (hostOperation enabled act s)) := hostOperation_raisesOnly (.inr hc)
  cases i with
  | configure => cases hi
  | drive => exact drive_of_not_driving (hd rfl) ▸ hrefused
  | reservedHop7 | reservedHopB | reservedHopC | reservedHopD | reservedHopE | reservedHopF => rfl
  | _ => exact hrefused

/-! ## The environment's events (R424, R450) -/

section
variable {s : State} {rest : List Event}

/-- U6: a time event that goes back stops the run. -/
theorem step_of_past_time {ms : U64} (ht : ms.toNat < s.now.toNat) (ha : s.agenda = .time ms :: rest) :
    step s = .fault .timeWentBackwards := by
  have hturn : nextTurn s = moveTime ms { s with agenda := rest } := nextTurn_of_event ha (Bool.and_false _)
  have hpast : ¬ s.now ≤ ms := fun hle => ht.not_ge (BitVec.le_def.mp hle)
  simp only [step, hturn, moveTime, hpast, if_false]

theorem step_of_powerOn (ha : s.agenda = .powerOn :: rest) : step s = .next (powerOnReset { s with agenda := rest }) := by
  have hturn : nextTurn s = .environment (powerOnReset { s with agenda := rest }) := nextTurn_of_event ha (Bool.and_false _)
  simp only [step, hturn]

theorem step_of_no_event (ha : s.agenda = []) (hd : s.driving = false) : step s = .next s := by
  have hturn : nextTurn s = .idle := by simp [nextTurn, ha, hd]
  simp only [step, hturn]

end

/-- Settles O5: one equation of the step per event, power-on being `powerOnReset`. -/
theorem stepEnvironment : Obligations.StepEnvironment := fun _ _ _ =>
  ⟨fun ha ht => step_of_time ht ha, fun ha ht => step_of_past_time ht ha, step_of_powerOn, step_of_no_event⟩

end Sys2Proof.Machine
end

section
/-! The reset file's statement: the values of the power-on reset column (70_reset_and_hazards.md R450, 10_state.md R54). -/

namespace Sys2Proof.Machine

/-- R43: each of the zero bundle's pipe records is the zero record. -/
theorem sixAt_zeroBundle_pipe (i : Fin 6) : sixAt zeroBundle.pipe i = zeroPipe := by
  match i with
  | 0 | 1 | 2 | 3 | 4 | 5 => rfl

/-- Settles O1: the bundle after reset is the zero bundle and the fault record the empty one; only the pipes and the fault
reasons range over an index. -/
theorem resetIsPowerOnColumn : Obligations.ResetIsPowerOnColumn := by
  rintro s rfl
  have hpipe (i : Fin 6) : sixAt State.reset.pipe i = zeroPipe := sixAt_zeroBundle_pipe i
  refine ⟨?engine, ?cache, ?addresses, fun i => ?pipe, ?buffers, ?flags, ?lines⟩
  case pipe =>
    rw [hpipe i]
    exact ⟨rfl, rfl, rfl, rfl⟩
  case lines => exact ⟨rfl, rfl, hasFault_noFaults⟩
  case engine | buffers | flags => exact ⟨rfl, rfl, rfl, rfl, rfl⟩
  case cache | addresses => exact ⟨rfl, rfl, rfl, rfl, rfl, rfl⟩

end Sys2Proof.Machine
end
